-- ==== Sys2Proof/Word.lean ====
section
/-! DEFINITION. The word types of DCALC (spec/00_scope.md R3: XLEN = 32, AW = 6; spec/30_encoding.md R60, R62). -/

namespace Sys2Proof

/-- A register or a bus datum: XLEN = 32 bits, unsigned (R3, R4). -/
abbrev Word := BitVec 32

/-- A byte offset in the 64-byte register window: AW = 6 bits (R3, R40). -/
abbrev Addr := BitVec 6

/-- The divider field Q = divider * 256: DIV_BITS = 24 bits, of which DIV_FRAC = 8 are fraction (R3, R12). -/
abbrev Divider := BitVec 24

/-- The 39-bit request word `REQ = {W, ADDR, DATA}` (R60). -/
abbrev ReqWord := BitVec 39

/-- The 33-bit response word `RSP = {ERR, RDATA}` (R62). -/
abbrev RspWord := BitVec 33

end Sys2Proof
end

