-- ==== Sys2Proof/Syntax.lean ====
section
/-! DEFINITION. The operations of DCALC: one constructor per row of spec/opcode_table.json (spec/30_encoding.md R64), and
the names of the registers of the window (spec/20_memory.md R41). -/

namespace Sys2Proof

/-- The registers mapped in the window (R41). CMD has an offset and no storage (R20). -/
inductive Reg where
  | sysclkHz | clkdiv | freqHz | pwUs | psUs | cmd | status | countA | countB | countC | countD
deriving DecidableEq, Repr

/-- A decoded request (R64). A read carries no operand: its DATA is not examined (R63 c). -/
inductive Instr where
  /-- RD.SYSCLK_HZ (R81). -/
  | rdSysclkHz
  /-- RD.CLKDIV (R82). -/
  | rdClkdiv
  /-- RD.FREQ_HZ (R83). -/
  | rdFreqHz
  /-- RD.PW_US (R84). -/
  | rdPwUs
  /-- RD.PS_US (R85). -/
  | rdPsUs
  /-- RD.CMD (R86). -/
  | rdCmd
  /-- RD.STATUS (R87). -/
  | rdStatus
  /-- RD.COUNT_A (R88). -/
  | rdCountA
  /-- RD.COUNT_B (R89). -/
  | rdCountB
  /-- RD.COUNT_C (R90). -/
  | rdCountC
  /-- RD.COUNT_D (R91). -/
  | rdCountD
  /-- WR.SYSCLK_HZ (R93): DATA is the frequency in hertz. -/
  | wrSysclkHz (data : Word)
  /-- WR.CLKDIV (R94): the operand is `DATA[23:0]` (R63 a). -/
  | wrClkdiv (q : Divider)
  /-- WR.FREQ_HZ (R95). -/
  | wrFreqHz (data : Word)
  /-- WR.PW_US (R96). -/
  | wrPwUs (data : Word)
  /-- WR.PS_US (R97). -/
  | wrPsUs (data : Word)
  /-- CMD.NOP (R111). -/
  | cmdNop
  /-- CMD.START (R112). -/
  | cmdStart
  /-- CMD.CLEAR (R113). -/
  | cmdClear
  /-- CMD.RSVD (R114): a write to CMD whose DATA is none of 0, 1, 2. -/
  | cmdRsvd (data : Word)
  /-- WR.STATUS (R98), a bus error. -/
  | wrStatus (data : Word)
  /-- WR.COUNT_A (R99), a bus error. -/
  | wrCountA (data : Word)
  /-- WR.COUNT_B (R100), a bus error. -/
  | wrCountB (data : Word)
  /-- WR.COUNT_C (R101), a bus error. -/
  | wrCountC (data : Word)
  /-- WR.COUNT_D (R102), a bus error. -/
  | wrCountD (data : Word)
  /-- BUSERR (R103): a request, read or write, at a misaligned or unmapped offset. -/
  | buserr (write : Bool) (addr : Addr) (data : Word)
deriving DecidableEq, Repr

end Sys2Proof
end

