-- ==== Sys2Proof/WellFormed.lean ====
section
/-! DEFINITION. Which operand values an operation can carry (spec/30_encoding.md R63, R64, R72). Every other operand field
has a type that holds exactly the values its encoding admits. -/

namespace Sys2Proof

/-- The offsets at which a request is row 26, BUSERR: `ADDR[1:0] != 0`, or an unmapped word (R103). -/
def isBusErrAddr (a : Addr) : Bool :=
  a.extractLsb' 0 2 != 0#2 || [0x1C#6, 0x30#6, 0x34#6, 0x38#6, 0x3C#6].contains a

/-- The codes of a write to CMD that are commands: 0, 1, 2 (R67). -/
def isDefinedCommand (data : Word) : Bool :=
  [0#32, 1#32, 2#32].contains data

/-- An operation as the decode of R64 can give it: CMD.RSVD does not carry the code of a command; BUSERR carries one of its
own offsets, and as a read the DATA of the canonical encoding, 0 (R63 c, R72). -/
def Instr.wellFormed : Instr → Bool
  | .cmdRsvd data => !isDefinedCommand data
  | .buserr write addr data => isBusErrAddr addr && (write || data == 0#32)
  | .rdSysclkHz | .rdClkdiv | .rdFreqHz | .rdPwUs | .rdPsUs | .rdCmd | .rdStatus => true
  | .rdCountA | .rdCountB | .rdCountC | .rdCountD => true
  | .wrSysclkHz _ | .wrClkdiv _ | .wrFreqHz _ | .wrPwUs _ | .wrPsUs _ => true
  | .cmdNop | .cmdStart | .cmdClear => true
  | .wrStatus _ | .wrCountA _ | .wrCountB _ | .wrCountC _ | .wrCountD _ => true

/-- `Instr.wellFormed` as a proposition. -/
abbrev Instr.WellFormed (i : Instr) : Prop := i.wellFormed = true

end Sys2Proof
end

