-- ==== Sys2Proof/Decode.lean ====
section
/-! DEFINITION. The request word: its fields, the decoder, the encoder and the opcode table (spec/30_encoding.md R60 to
R68, R72). Every one of the 2^39 words decodes (R64), so the decoder has nothing to reject: what is illegal decodes to the
operation BUSERR or to a write of a read-only register, each under its own name (R66 a). -/

namespace Sys2Proof

/-! ## The fields of a request word (R60, R61) -/

/-- W, bit 38: true for a write. -/
def reqWrite (w : ReqWord) : Bool := w.getLsbD 38

/-- ADDR, bits 37:32. -/
def reqAddr (w : ReqWord) : Addr := w.extractLsb' 32 6

/-- DATA, bits 31:0. -/
def reqData (w : ReqWord) : Word := w.extractLsb' 0 32

/-- `REQ = {W, ADDR, DATA}` (R60). -/
def mkReq (write : Bool) (addr : Addr) (data : Word) : ReqWord :=
  BitVec.ofBool write ++ addr ++ data

/-- `ADDR[1:0]`, the byte in the word (R61). -/
def byteInWord (a : Addr) : BitVec 2 := a.extractLsb' 0 2

/-- `ADDR[5:2]`, the word index (R61). -/
def wordIndex (a : Addr) : BitVec 4 := a.extractLsb' 2 4

/-- `DATA[23:0]`, all that WR.CLKDIV uses (R63 a). -/
def dividerField (data : Word) : Divider := data.setWidth 24

/-! ## The register map (R41, R61) -/

/-- The register of a word index, if one is mapped there (R61). -/
def Reg.ofIndex : Nat → Option Reg
  | 0 => some .sysclkHz
  | 1 => some .clkdiv
  | 2 => some .freqHz
  | 3 => some .pwUs
  | 4 => some .psUs
  | 5 => some .cmd
  | 6 => some .status
  | 8 => some .countA
  | 9 => some .countB
  | 10 => some .countC
  | 11 => some .countD
  | _ => none

/-- The register an offset names: none when the offset is misaligned or its word unmapped (R41, R43). -/
def Reg.ofAddr (a : Addr) : Option Reg :=
  if byteInWord a = 0#2 then Reg.ofIndex (wordIndex a).toNat else none

/-- The byte offset of a register (R41). -/
def Reg.offset : Reg → Addr
  | .sysclkHz => 0x00#6
  | .clkdiv => 0x04#6
  | .freqHz => 0x08#6
  | .pwUs => 0x0C#6
  | .psUs => 0x10#6
  | .cmd => 0x14#6
  | .status => 0x18#6
  | .countA => 0x20#6
  | .countB => 0x24#6
  | .countC => 0x28#6
  | .countD => 0x2C#6

/-! ## The decoder (R64) -/

/-- A read: the register is the operand, DATA is not examined (R63 c, R64 rows 1 to 11 and 26). -/
def decodeRead (addr : Addr) : Instr :=
  match Reg.ofAddr addr with
  | some .sysclkHz => .rdSysclkHz
  | some .clkdiv => .rdClkdiv
  | some .freqHz => .rdFreqHz
  | some .pwUs => .rdPwUs
  | some .psUs => .rdPsUs
  | some .cmd => .rdCmd
  | some .status => .rdStatus
  | some .countA => .rdCountA
  | some .countB => .rdCountB
  | some .countC => .rdCountC
  | some .countD => .rdCountD
  | none => .buserr false addr 0#32

/-- A write to CMD: the code is the whole of DATA (R67, R110; R64 rows 17 to 20). -/
def decodeCommand (data : Word) : Instr :=
  if data = 0#32 then .cmdNop
  else if data = 1#32 then .cmdStart
  else if data = 2#32 then .cmdClear
  else .cmdRsvd data

/-- A write (R64 rows 12 to 26). -/
def decodeWrite (addr : Addr) (data : Word) : Instr :=
  match Reg.ofAddr addr with
  | some .sysclkHz => .wrSysclkHz data
  | some .clkdiv => .wrClkdiv (dividerField data)
  | some .freqHz => .wrFreqHz data
  | some .pwUs => .wrPwUs data
  | some .psUs => .wrPsUs data
  | some .cmd => decodeCommand data
  | some .status => .wrStatus data
  | some .countA => .wrCountA data
  | some .countB => .wrCountB data
  | some .countC => .wrCountC data
  | some .countD => .wrCountD data
  | none => .buserr true addr data

/-- The operation of a request word (R64), a function of the word alone (R68). -/
def decode (w : ReqWord) : Instr :=
  if reqWrite w then decodeWrite (reqAddr w) (reqData w) else decodeRead (reqAddr w)

/-! ## The encoder (R60, R64, R72) -/

/-- The canonical word of an operation: a read has DATA = 0, WR.CLKDIV has `DATA[31:24] = 0` (R72). -/
def encode : Instr → ReqWord
  | .rdSysclkHz => mkReq false Reg.sysclkHz.offset 0#32
  | .rdClkdiv => mkReq false Reg.clkdiv.offset 0#32
  | .rdFreqHz => mkReq false Reg.freqHz.offset 0#32
  | .rdPwUs => mkReq false Reg.pwUs.offset 0#32
  | .rdPsUs => mkReq false Reg.psUs.offset 0#32
  | .rdCmd => mkReq false Reg.cmd.offset 0#32
  | .rdStatus => mkReq false Reg.status.offset 0#32
  | .rdCountA => mkReq false Reg.countA.offset 0#32
  | .rdCountB => mkReq false Reg.countB.offset 0#32
  | .rdCountC => mkReq false Reg.countC.offset 0#32
  | .rdCountD => mkReq false Reg.countD.offset 0#32
  | .wrSysclkHz data => mkReq true Reg.sysclkHz.offset data
  | .wrClkdiv q => mkReq true Reg.clkdiv.offset (q.setWidth 32)
  | .wrFreqHz data => mkReq true Reg.freqHz.offset data
  | .wrPwUs data => mkReq true Reg.pwUs.offset data
  | .wrPsUs data => mkReq true Reg.psUs.offset data
  | .cmdNop => mkReq true Reg.cmd.offset 0#32
  | .cmdStart => mkReq true Reg.cmd.offset 1#32
  | .cmdClear => mkReq true Reg.cmd.offset 2#32
  | .cmdRsvd data => mkReq true Reg.cmd.offset data
  | .wrStatus data => mkReq true Reg.status.offset data
  | .wrCountA data => mkReq true Reg.countA.offset data
  | .wrCountB data => mkReq true Reg.countB.offset data
  | .wrCountC data => mkReq true Reg.countC.offset data
  | .wrCountD data => mkReq true Reg.countD.offset data
  | .buserr write addr data => mkReq write addr data

/-! ## The opcode table (R64), beside the decoder: statements hold the decoder against it -/

/-- The mnemonic of an operation, as spec/opcode_table.json spells it. -/
def Instr.mnemonic : Instr → String
  | .rdSysclkHz => "RD.SYSCLK_HZ"
  | .rdClkdiv => "RD.CLKDIV"
  | .rdFreqHz => "RD.FREQ_HZ"
  | .rdPwUs => "RD.PW_US"
  | .rdPsUs => "RD.PS_US"
  | .rdCmd => "RD.CMD"
  | .rdStatus => "RD.STATUS"
  | .rdCountA => "RD.COUNT_A"
  | .rdCountB => "RD.COUNT_B"
  | .rdCountC => "RD.COUNT_C"
  | .rdCountD => "RD.COUNT_D"
  | .wrSysclkHz _ => "WR.SYSCLK_HZ"
  | .wrClkdiv _ => "WR.CLKDIV"
  | .wrFreqHz _ => "WR.FREQ_HZ"
  | .wrPwUs _ => "WR.PW_US"
  | .wrPsUs _ => "WR.PS_US"
  | .cmdNop => "CMD.NOP"
  | .cmdStart => "CMD.START"
  | .cmdClear => "CMD.CLEAR"
  | .cmdRsvd _ => "CMD.RSVD"
  | .wrStatus _ => "WR.STATUS"
  | .wrCountA _ => "WR.COUNT_A"
  | .wrCountB _ => "WR.COUNT_B"
  | .wrCountC _ => "WR.COUNT_C"
  | .wrCountD _ => "WR.COUNT_D"
  | .buserr _ _ _ => "BUSERR"

/-- A row of the opcode table: a word is of the row when `(REQ and mask) = pattern` (R64). -/
structure OpcodeRow where
  mnemonic : String
  pattern : ReqWord
  mask : ReqWord
deriving DecidableEq, Repr

/-- The row's test on a word (R64). -/
def rowMatches (w : ReqWord) (r : OpcodeRow) : Bool := (w &&& r.mask) == r.pattern

/-- The 26 rows of R64, in priority order. -/
def opcodeTable : List OpcodeRow :=
  [ ⟨"RD.SYSCLK_HZ", 0x0000000000#39, 0x7F00000000#39⟩,
    ⟨"RD.CLKDIV", 0x0400000000#39, 0x7F00000000#39⟩,
    ⟨"RD.FREQ_HZ", 0x0800000000#39, 0x7F00000000#39⟩,
    ⟨"RD.PW_US", 0x0C00000000#39, 0x7F00000000#39⟩,
    ⟨"RD.PS_US", 0x1000000000#39, 0x7F00000000#39⟩,
    ⟨"RD.CMD", 0x1400000000#39, 0x7F00000000#39⟩,
    ⟨"RD.STATUS", 0x1800000000#39, 0x7F00000000#39⟩,
    ⟨"RD.COUNT_A", 0x2000000000#39, 0x7F00000000#39⟩,
    ⟨"RD.COUNT_B", 0x2400000000#39, 0x7F00000000#39⟩,
    ⟨"RD.COUNT_C", 0x2800000000#39, 0x7F00000000#39⟩,
    ⟨"RD.COUNT_D", 0x2C00000000#39, 0x7F00000000#39⟩,
    ⟨"WR.SYSCLK_HZ", 0x4000000000#39, 0x7F00000000#39⟩,
    ⟨"WR.CLKDIV", 0x4400000000#39, 0x7F00000000#39⟩ ] ++
  [ ⟨"WR.FREQ_HZ", 0x4800000000#39, 0x7F00000000#39⟩,
    ⟨"WR.PW_US", 0x4C00000000#39, 0x7F00000000#39⟩,
    ⟨"WR.PS_US", 0x5000000000#39, 0x7F00000000#39⟩,
    ⟨"CMD.NOP", 0x5400000000#39, 0x7FFFFFFFFF#39⟩,
    ⟨"CMD.START", 0x5400000001#39, 0x7FFFFFFFFF#39⟩,
    ⟨"CMD.CLEAR", 0x5400000002#39, 0x7FFFFFFFFF#39⟩,
    ⟨"CMD.RSVD", 0x5400000000#39, 0x7F00000000#39⟩,
    ⟨"WR.STATUS", 0x5800000000#39, 0x7F00000000#39⟩,
    ⟨"WR.COUNT_A", 0x6000000000#39, 0x7F00000000#39⟩,
    ⟨"WR.COUNT_B", 0x6400000000#39, 0x7F00000000#39⟩,
    ⟨"WR.COUNT_C", 0x6800000000#39, 0x7F00000000#39⟩,
    ⟨"WR.COUNT_D", 0x6C00000000#39, 0x7F00000000#39⟩,
    ⟨"BUSERR", 0x0000000000#39, 0x0000000000#39⟩ ]

/-! ## The host's entry -/

/-- The request word of a number of `nbits` bits. The port has 39 wires (R60): a bit 39, which whole bytes leave room for,
reaches none. DESIGN CHOICE, safe (log entry 6). -/
def tableWord (nbits w : Nat) : ReqWord := BitVec.ofNat 39 (w % 2 ^ nbits)

/-- The operation the decoder reads from a table word; every word has one (R64). -/
def decodeTableWord (nbits w : Nat) : Option Instr := some (decode (tableWord nbits w))

end Sys2Proof
end

