-- ==== Sys2Proof/Config.lean ====
section
/-! DEFINITION. The implementation's constants (spec/00_scope.md R3). None of them is a free value: the spec gives each. -/

namespace Sys2Proof.Config

/-- OVERHEAD: the cycles subtracted from every raw count (R3, R128). -/
def overhead : Nat := 4

/-- NPHASE: the number of phases and of counts, A, B, C, D (R3). -/
def nPhase : Nat := 4

/-- US_PER_S: microseconds in a second, the exact reading of the source's `1e-6` (R3, R139). -/
def usPerS : Nat := 1000000

/-- The scale of the Q16.8 divider, `2^DIV_FRAC` with DIV_FRAC = 8 (R3, R12). -/
def divScale : Nat := 256

/-- CNT_MAX: the largest representable count and the largest admitted period in cycles (R3, R124). -/
def cntMax : Nat := 4294967295

/-- Where the idle tail is computed (R3): `cyc` subtracts cycle counts (R126), `us` subtracts microseconds and then
converts (R127). -/
inductive IdleDomain where
  | cyc
  | us
deriving DecidableEq, Repr

/-- IDLE_DOMAIN of the hardware this spec describes: CYC (R121, "The hardware takes IDLE_DOMAIN = CYC"). The calculation
takes the domain as an argument (R3), so that what holds of both is stated of both. -/
def idleDomain : IdleDomain := .cyc

end Sys2Proof.Config
end

