-- ==== Sys2Proof/Machine/State.lean ====
section
/-! DEFINITION. The state of DCALC as plain data (spec/10_state.md R10 to R33), the port's request and response, and the
reasons a step can stop. The last two fields of State are the model's own: the response outputs (R28) and the schedule of
the coming clock cycles. -/

namespace Sys2Proof.Machine

/-- A request presented at the register port in a cycle with `req_valid = 1` (R28). -/
structure Request where
  /-- `req_write`: true for a write. -/
  write : Bool
  /-- `req_addr[5:0]`: the byte offset in the window. -/
  addr : Addr
  /-- `req_wdata[31:0]`: the write data. -/
  wdata : Word
deriving DecidableEq, Repr

/-- The response outputs of a cycle (R28, R62). -/
structure Response where
  /-- `rsp_err`: true for a bus error. -/
  err : Bool
  /-- `rsp_rdata[31:0]`. -/
  rdata : Word
deriving DecidableEq, Repr

/-- What one clock cycle brings (R28, R163): the level of `rst`, the request presented (none when `req_valid = 0`), and
whether the engine, if it is busy, completes at the edge that ends the cycle (the latency LAT, which the spec leaves open:
R180). DESIGN CHOICE (log entries 1 and 3). -/
structure CycleInput where
  rst : Bool
  req : Option Request
  complete : Bool
deriving DecidableEq, Repr

/-- The four causes of a configuration error (R150). -/
inductive ConfigError where
  /-- CLKDIV[23:0] = 0 (R151). -/
  | div0
  /-- FREQ_HZ = 0 (R152). -/
  | freq0
  /-- The pulses and the gap fill the period (R153). -/
  | timing
  /-- The period does not fit a 32-bit count (R154). -/
  | range
deriving DecidableEq, Repr

/-- The five lockable parameter registers (R11 to R15). -/
inductive ParamReg where
  | sysclkHz | clkdiv | freqHz | pwUs | psUs
deriving DecidableEq, Repr

/-- The sideband outputs to the consumer (R27). -/
structure Sideband where
  cntA : Word
  cntB : Word
  cntC : Word
  cntD : Word
  cntValid : Bool
  cfgErr : Bool
  busy : Bool
  done : Bool
deriving DecidableEq, Repr

/-- The machine. The first fifteen fields are the eleven items of R10, the STATUS register as its five flags and its one
field; `rsp` and `schedule` are the model's. -/
structure State where
  /-- SYSCLK_HZ, offset 0x00 (R11). -/
  sysclkHz : Word
  /-- CLKDIV, offset 0x04: Q in bits 23:0, bits 31:24 zero (R12). -/
  clkdiv : Word
  /-- FREQ_HZ, offset 0x08 (R13). -/
  freqHz : Word
  /-- PW_US, offset 0x0C (R14). -/
  pwUs : Word
  /-- PS_US, offset 0x10 (R15). -/
  psUs : Word
  /-- COUNT_A, offset 0x20 (R16). -/
  countA : Word
  /-- COUNT_B, offset 0x24 (R17). -/
  countB : Word
  /-- COUNT_C, offset 0x28 (R18). -/
  countC : Word
  /-- COUNT_D, offset 0x2C (R19). -/
  countD : Word
  /-- STATUS.BUSY, the engine state (R22). -/
  busy : Bool
  /-- STATUS.DONE (R23). -/
  done : Bool
  /-- STATUS.VALID (R24). -/
  valid : Bool
  /-- STATUS.ERR (R25). -/
  err : Bool
  /-- STATUS.IGN (R26). -/
  ign : Bool
  /-- STATUS.ERRCODE (R25). -/
  errcode : BitVec 4
  /-- The response outputs of the last cycle (R28): the model's own field. -/
  rsp : Response
  /-- The coming clock cycles, the next one first: the model's own field (log entry 1). -/
  schedule : List CycleInput
deriving DecidableEq, Repr

/-- Why the machine could stop with a fault: never. The spec has no event that stops DCALC (R8, "Stuck: none"): a
configuration error, a bus error and an ignored request all end in a next state (R150, R156, R158). DEDUCED, safe (log
entry 8). -/
inductive Fault where
deriving DecidableEq, Repr

/-- Why the model could give an operation no meaning. -/
inductive Refusal where
  /-- An operation the model does not cover, by its mnemonic in the opcode table; raised by an arm of `exec` alone, and by
  none in this model. Safe: nothing can be proved of a run past it. -/
  | notModelled (mnemonic : String)
deriving DecidableEq, Repr

/-- The machine right after reset: every item of R10 is zero (R33, R170), the response outputs are (0, 0) (R170), and no
cycle is scheduled: DCALC starts nothing by itself (R170). -/
def State.reset : State where
  sysclkHz := 0#32
  clkdiv := 0#32
  freqHz := 0#32
  pwUs := 0#32
  psUs := 0#32
  countA := 0#32
  countB := 0#32
  countC := 0#32
  countD := 0#32
  busy := false
  done := false
  valid := false
  err := false
  ign := false
  errcode := 0#4
  rsp := ⟨false, 0#32⟩
  schedule := []

end Sys2Proof.Machine
end

