-- ==== Sys2Proof/Machine/Operands.lean ====
section
/-! DEFINITION. The port's words and the operands of the operations: assembling the request word (spec/30_encoding.md
R60), the response word (R62) and the divider field (R12, R63). -/

namespace Sys2Proof.Machine

/-- The request word of the three request ports (R60). -/
def Request.toWord (r : Request) : ReqWord := mkReq r.write r.addr r.wdata

/-- The request whose word is `w` (R60). -/
def Request.ofWord (w : ReqWord) : Request := ⟨reqWrite w, reqAddr w, reqData w⟩

/-- `RSP = {ERR, RDATA}` (R62). -/
def Response.toWord (r : Response) : RspWord := BitVec.ofBool r.err ++ r.rdata

/-- The response outputs when nothing is performed: (0, 0) (R170, R183). -/
def Response.idle : Response := ⟨false, 0#32⟩

/-- The word stored in CLKDIV for the field Q: `zext_32(DATA[23:0])` (R94). -/
def dividerWord (q : Divider) : Word := q.setWidth 32

/-- Q, the part of CLKDIV that is read and computed with: bits 23:0 (R12, R82). -/
def State.divider (s : State) : Divider := s.clkdiv.setWidth 24

end Sys2Proof.Machine
end

