-- ==== Sys2Proof/Machine/Flags.lean ====
section
/-! DEFINITION. STATUS, the lock and the sideband outputs (spec/10_state.md R21 to R27, R31; the codes of
spec/60_exceptions.md R150). -/

namespace Sys2Proof.Machine

/-- ERRCODE of a configuration error (R150). -/
def ConfigError.code : ConfigError → BitVec 4
  | .div0 => 1#4
  | .freq0 => 2#4
  | .timing => 3#4
  | .range => 4#4

/-- The value a read of STATUS returns: `{20'b0, ERRCODE, 3'b0, IGN, ERR, VALID, DONE, BUSY}` (R21, R87). -/
def State.statusWord (s : State) : Word :=
  0#20 ++ s.errcode ++ 0#3 ++ BitVec.ofBool s.ign ++ BitVec.ofBool s.err ++ BitVec.ofBool s.valid
    ++ BitVec.ofBool s.done ++ BitVec.ofBool s.busy

/-- `locked = (STATUS.BUSY = 1) or (STATUS.VALID = 1)` (R31). -/
def State.locked (s : State) : Bool := s.busy || s.valid

/-- The sideband outputs mirror the state (R27). -/
def State.sideband (s : State) : Sideband where
  cntA := s.countA
  cntB := s.countB
  cntC := s.countC
  cntD := s.countD
  cntValid := s.valid
  cfgErr := s.err
  busy := s.busy
  done := s.done

/-- `ignore`: nothing changes but `STATUS.IGN <- 1` (R5, R158). -/
def State.ignore (s : State) : State := { s with ign := true }

/-- The flags of an accepted START: BUSY set; DONE, ERR, ERRCODE cleared (R112). -/
def State.startFlags (s : State) : State :=
  { s with busy := true, done := false, err := false, errcode := 0#4 }

/-- The flags of an accepted CLEAR: DONE, VALID, ERR, ERRCODE, IGN cleared (R113). -/
def State.clearFlags (s : State) : State :=
  { s with done := false, valid := false, err := false, errcode := 0#4, ign := false }

end Sys2Proof.Machine
end

