-- ==== Sys2Proof/Machine/Ops.lean ====
section
/-! DEFINITION. The operations every meaning is built from: the response, reading and writing the registers of the window
(spec/20_memory.md R40 to R46), and what stands for taking an exception on DCALC (spec/60_exceptions.md R150, R156, R158):
the bus error, the ignored request and the configuration error. No operation returns from one (R161). -/

namespace Sys2Proof.Machine

/-! ## The response (R62) -/

/-- The response outputs take the value `(err, rdata)`; the state of R10 is as it was. -/
def State.respond (s : State) (err : Bool) (rdata : Word) : State := { s with rsp := ⟨err, rdata⟩ }

/-- A request done, or ignored, with no data to return: (0, 0) (R92, R110). -/
def State.respondDone (s : State) : State := s.respond false 0#32

/-! ## The registers -/

/-- The value a read of a register returns (R81 to R91): CLKDIV shows its 24 bits, CMD reads 0. -/
def readReg (s : State) : Reg → Word
  | .sysclkHz => s.sysclkHz
  | .clkdiv => dividerWord s.divider
  | .freqHz => s.freqHz
  | .pwUs => s.pwUs
  | .psUs => s.psUs
  | .cmd => 0#32
  | .status => s.statusWord
  | .countA => s.countA
  | .countB => s.countB
  | .countC => s.countC
  | .countD => s.countD

/-- A parameter register takes a value; CLKDIV keeps only bits 23:0, its bits 31:24 stay zero (R12, R41). -/
def setParam (s : State) (p : ParamReg) (v : Word) : State :=
  match p with
  | .sysclkHz => { s with sysclkHz := v }
  | .clkdiv => { s with clkdiv := dividerWord (dividerField v) }
  | .freqHz => { s with freqHz := v }
  | .pwUs => { s with pwUs := v }
  | .psUs => { s with psUs := v }

/-- The four counts take the values of a result (R120). -/
def setCounts (s : State) (a b c d : Word) : State :=
  { s with countA := a, countB := b, countC := c, countD := d }

/-- `MemRead(addr, 4)` as the host sees it: the response of a read at `addr` (R5, R41, R43). -/
def memRead (s : State) (addr : Addr) : Response :=
  match Reg.ofAddr addr with
  | some r => ⟨false, readReg s r⟩
  | none => ⟨true, 0#32⟩

/-- The byte at an offset of the window, for a platform that bridges the port to a byte-addressed bus: byte `base + k` is
bits `[8k+7 : 8k]` of the register at `base` (R42). None where no register is mapped. -/
def windowByte (s : State) (off : Addr) : Option (BitVec 8) :=
  match Reg.ofIndex (wordIndex off).toNat with
  | some r => some ((readReg s r).extractLsb' (8 * (byteInWord off).toNat) 8)
  | none => none

/-! ## The operations of the requests -/

/-- A read: no state changes; the response is the register's value (R80). -/
def readOp (s : State) (r : Reg) : State := s.respond false (readReg s r)

/-- A write to a parameter register: ignored while locked, else stored (R92). -/
def writeParamOp (s : State) (p : ParamReg) (v : Word) : State :=
  if s.locked then s.ignore.respondDone else (setParam s p v).respondDone

/-- An ignored request: IGN is set, the response is the normal one (R158). -/
def ignoreOp (s : State) : State := s.ignore.respondDone

/-- `raise BusError(addr)`: the response is (1, 0) and no state changes (R5, R156). -/
def raiseBusError (s : State) : State := s.respond true 0#32

/-! ## The configuration error -/

/-- `raise ConfigError(code)`: ERR is set and ERRCODE names the cause (R5, R120, R150). -/
def raiseConfigError (s : State) (e : ConfigError) : State :=
  { s with err := true, errcode := e.code }

/-! ## Reset -/

/-- RESET at a clock edge: every item of state takes its reset value and the response outputs are (0, 0) (R170). The
schedule is the environment's and stays. -/
def State.resetEdge (s : State) : State := { State.reset with schedule := s.schedule }

end Sys2Proof.Machine
end

