-- ==== Sys2Proof/Machine/BusErrors.lean ====
section
/-! DEFINITION. The illegal requests (spec/40_register_access.md R98 to R103): a bus error, always, and no state changes. -/

namespace Sys2Proof.Machine

/-- WR.STATUS (R98). -/
def execWrStatus (_data : Word) (s : State) : Host.Outcome State Fault Refusal :=
  .next (raiseBusError s)

/-- WR.COUNT_A (R99). -/
def execWrCountA (_data : Word) (s : State) : Host.Outcome State Fault Refusal :=
  .next (raiseBusError s)

/-- WR.COUNT_B (R100). -/
def execWrCountB (_data : Word) (s : State) : Host.Outcome State Fault Refusal :=
  .next (raiseBusError s)

/-- WR.COUNT_C (R101). -/
def execWrCountC (_data : Word) (s : State) : Host.Outcome State Fault Refusal :=
  .next (raiseBusError s)

/-- WR.COUNT_D (R102). -/
def execWrCountD (_data : Word) (s : State) : Host.Outcome State Fault Refusal :=
  .next (raiseBusError s)

/-- BUSERR (R103). -/
def execBuserr (_write : Bool) (_addr : Addr) (_data : Word) (s : State) : Host.Outcome State Fault Refusal :=
  .next (raiseBusError s)

end Sys2Proof.Machine
end

