-- ==== Sys2Proof/Machine/Commands.lean ====
section
/-! DEFINITION. The commands, writes to CMD (spec/41_commands.md R110 to R114). Every response is (0, 0). -/

namespace Sys2Proof.Machine

/-- CMD.NOP: nothing, in every state (R111). -/
def execCmdNop (s : State) : Host.Outcome State Fault Refusal :=
  .next (s.respondDone)

/-- CMD.START: ignored while BUSY or VALID, else the engine becomes busy (R112). -/
def execCmdStart (s : State) : Host.Outcome State Fault Refusal :=
  .next (if s.locked then ignoreOp s else s.startFlags.respondDone)

/-- CMD.CLEAR: ignored while BUSY, else the results and the flags go to 0 and the parameters stay (R113). -/
def execCmdClear (s : State) : Host.Outcome State Fault Refusal :=
  .next (if s.busy then ignoreOp s else (setCounts s.clearFlags 0#32 0#32 0#32 0#32).respondDone)

/-- CMD.RSVD: ignored in every state (R114). -/
def execCmdRsvd (_data : Word) (s : State) : Host.Outcome State Fault Refusal :=
  .next (ignoreOp s)

end Sys2Proof.Machine
end

