-- ==== Sys2Proof/Machine/ParamWrites.lean ====
section
/-! DEFINITION. The writes to the five parameter registers (spec/40_register_access.md R92 to R97). -/

namespace Sys2Proof.Machine

/-- WR.SYSCLK_HZ (R93). -/
def execWrSysclkHz (data : Word) (s : State) : Host.Outcome State Fault Refusal :=
  .next (writeParamOp s .sysclkHz data)

/-- WR.CLKDIV: `zext_32(DATA[23:0])` is stored (R94). -/
def execWrClkdiv (q : Divider) (s : State) : Host.Outcome State Fault Refusal :=
  .next (writeParamOp s .clkdiv (dividerWord q))

/-- WR.FREQ_HZ (R95). -/
def execWrFreqHz (data : Word) (s : State) : Host.Outcome State Fault Refusal :=
  .next (writeParamOp s .freqHz data)

/-- WR.PW_US (R96). -/
def execWrPwUs (data : Word) (s : State) : Host.Outcome State Fault Refusal :=
  .next (writeParamOp s .pwUs data)

/-- WR.PS_US (R97). -/
def execWrPsUs (data : Word) (s : State) : Host.Outcome State Fault Refusal :=
  .next (writeParamOp s .psUs data)

end Sys2Proof.Machine
end

