-- ==== Sys2Proof/Machine/Reads.lean ====
section
/-! DEFINITION. The read operations RD.* (spec/40_register_access.md R80 to R91). Each is allowed in every state and changes none. -/

namespace Sys2Proof.Machine

/-- RD.SYSCLK_HZ (R81). -/
def execRdSysclkHz (s : State) : Host.Outcome State Fault Refusal :=
  .next (readOp s .sysclkHz)

/-- RD.CLKDIV: bits 31:24 read 0 (R82). -/
def execRdClkdiv (s : State) : Host.Outcome State Fault Refusal :=
  .next (readOp s .clkdiv)

/-- RD.FREQ_HZ (R83). -/
def execRdFreqHz (s : State) : Host.Outcome State Fault Refusal :=
  .next (readOp s .freqHz)

/-- RD.PW_US (R84). -/
def execRdPwUs (s : State) : Host.Outcome State Fault Refusal :=
  .next (readOp s .pwUs)

/-- RD.PS_US (R85). -/
def execRdPsUs (s : State) : Host.Outcome State Fault Refusal :=
  .next (readOp s .psUs)

/-- RD.CMD: legal, returns 0, performs no command (R86). -/
def execRdCmd (s : State) : Host.Outcome State Fault Refusal :=
  .next (readOp s .cmd)

/-- RD.STATUS: clears nothing (R87). -/
def execRdStatus (s : State) : Host.Outcome State Fault Refusal :=
  .next (readOp s .status)

/-- RD.COUNT_A (R88). -/
def execRdCountA (s : State) : Host.Outcome State Fault Refusal :=
  .next (readOp s .countA)

/-- RD.COUNT_B (R89). -/
def execRdCountB (s : State) : Host.Outcome State Fault Refusal :=
  .next (readOp s .countB)

/-- RD.COUNT_C (R90). -/
def execRdCountC (s : State) : Host.Outcome State Fault Refusal :=
  .next (readOp s .countC)

/-- RD.COUNT_D (R91). -/
def execRdCountD (s : State) : Host.Outcome State Fault Refusal :=
  .next (readOp s .countD)

end Sys2Proof.Machine
end

