-- ==== Sys2Proof/Machine/Dispatch.lean ====
section
/-! DEFINITION. The dispatch: one arm per operation of the opcode table. -/

namespace Sys2Proof.Machine

-- The effect of a request's operation on the state (R64: the decode picks exactly one).
def exec (i : Instr) (s : State) : Host.Outcome State Fault Refusal :=
  match i with
  | .rdSysclkHz => Sys2Proof.Machine.execRdSysclkHz s
  | .rdClkdiv => Sys2Proof.Machine.execRdClkdiv s
  | .rdFreqHz => Sys2Proof.Machine.execRdFreqHz s
  | .rdPwUs => Sys2Proof.Machine.execRdPwUs s
  | .rdPsUs => Sys2Proof.Machine.execRdPsUs s
  | .rdCmd => Sys2Proof.Machine.execRdCmd s
  | .rdStatus => Sys2Proof.Machine.execRdStatus s
  | .rdCountA => Sys2Proof.Machine.execRdCountA s
  | .rdCountB => Sys2Proof.Machine.execRdCountB s
  | .rdCountC => Sys2Proof.Machine.execRdCountC s
  | .rdCountD => Sys2Proof.Machine.execRdCountD s
  | .wrSysclkHz data => Sys2Proof.Machine.execWrSysclkHz data s
  | .wrClkdiv q => Sys2Proof.Machine.execWrClkdiv q s
  | .wrFreqHz data => Sys2Proof.Machine.execWrFreqHz data s
  | .wrPwUs data => Sys2Proof.Machine.execWrPwUs data s
  | .wrPsUs data => Sys2Proof.Machine.execWrPsUs data s
  | .cmdNop => Sys2Proof.Machine.execCmdNop s
  | .cmdStart => Sys2Proof.Machine.execCmdStart s
  | .cmdClear => Sys2Proof.Machine.execCmdClear s
  | .cmdRsvd data => Sys2Proof.Machine.execCmdRsvd data s
  | .wrStatus data => Sys2Proof.Machine.execWrStatus data s
  | .wrCountA data => Sys2Proof.Machine.execWrCountA data s
  | .wrCountB data => Sys2Proof.Machine.execWrCountB data s
  | .wrCountC data => Sys2Proof.Machine.execWrCountC data s
  | .wrCountD data => Sys2Proof.Machine.execWrCountD data s
  | .buserr write addr data => Sys2Proof.Machine.execBuserr write addr data s

end Sys2Proof.Machine
end

