-- ==== Sys2Proof/Machine/Calc.lean ====
section
/-! DEFINITION. The function CALC in exact integer arithmetic (spec/42_calculation.md R121 to R130). Every quantity is a
natural number; `/` is the floor of the exact quotient (R4). -/

namespace Sys2Proof.Machine

/-- The four stored counts, in the order of the phases (R129). -/
structure Counts where
  a : Nat
  b : Nat
  c : Nat
  d : Nat
deriving DecidableEq, Repr

/-- What CALC returns: `Ok(a, b, c, d)` or `Err(code)` (R121). -/
inductive CalcResult where
  | ok (c : Counts)
  | error (e : ConfigError)
deriving DecidableEq, Repr

/-- `sat_sub(x, k)`: `x - k` if `x > k`, else 0 (R5, R128). -/
def satSub (x k : Nat) : Nat := if x > k then x - k else 0

/-- T, the total of the three requested durations in microseconds (R123). -/
def requestedUs (PW PS : Nat) : Nat := 2 * PW + PS

/-- P_raw, the period in cycles (R124). -/
def periodRaw (S Q F : Nat) : Nat := (S * Config.divScale) / (Q * F)

/-- The cycles of a duration of `us` microseconds, A_raw of PW and B_raw of PS (R125). -/
def durationRaw (S Q us : Nat) : Nat := (us * S * Config.divScale) / (Q * Config.usPerS)

/-- D_raw with the subtraction in cycles (R126). -/
def idleRawCyc (S Q F PW PS : Nat) : Nat :=
  periodRaw S Q F - durationRaw S Q PW - durationRaw S Q PS - durationRaw S Q PW

/-- D_raw with the subtraction in microseconds (R127). -/
def idleRawUs (S Q F PW PS : Nat) : Nat :=
  ((Config.usPerS - requestedUs PW PS * F) * S * Config.divScale) / (F * Q * Config.usPerS)

/-- D_raw (step 6 of R121). -/
def idleRaw (d : Config.IdleDomain) (S Q F PW PS : Nat) : Nat :=
  match d with
  | .cyc => idleRawCyc S Q F PW PS
  | .us => idleRawUs S Q F PW PS

/-- The stored counts of the raw ones: the overhead subtracted from each, floored at zero; C is A's copy (R125, R128). -/
def storedCounts (d : Config.IdleDomain) (S Q F PW PS : Nat) : Counts where
  a := satSub (durationRaw S Q PW) Config.overhead
  b := satSub (durationRaw S Q PS) Config.overhead
  c := satSub (durationRaw S Q PW) Config.overhead
  d := satSub (idleRaw d S Q F PW PS) Config.overhead

/-- `CALC(S, Q, F, PW, PS)`: the first step that returns ends it (R121, R140, R155). -/
def calcDelay (d : Config.IdleDomain) (S Q F PW PS : Nat) : CalcResult :=
  if Q = 0 then .error .div0
  else if F = 0 then .error .freq0
  else if requestedUs PW PS * F ≥ Config.usPerS then .error .timing
  else if periodRaw S Q F > Config.cntMax then .error .range
  else .ok (storedCounts d S Q F PW PS)

end Sys2Proof.Machine
end

