-- ==== Sys2Proof/Machine/Engine.lean ====
section
/-! DEFINITION. The engine's one step, ENG.COMPLETE, which has no encoding (spec/42_calculation.md R120; spec/30_encoding.md
R65). -/

namespace Sys2Proof.Machine

/-- `CALC(x[SYSCLK_HZ], x[CLKDIV][23:0], x[FREQ_HZ], x[PW_US], x[PS_US])`, of the registers as they stand (R120). -/
def State.calcNow (d : Config.IdleDomain) (s : State) : CalcResult :=
  calcDelay d s.sysclkHz.toNat s.divider.toNat s.freqHz.toNat s.pwUs.toNat s.psUs.toNat

/-- What ENG.COMPLETE writes for a result: on success the four counts and VALID, on an error ERR and ERRCODE (R120). -/
def State.record (s : State) : CalcResult → State
  | .ok c =>
    { setCounts s (BitVec.ofNat 32 c.a) (BitVec.ofNat 32 c.b) (BitVec.ofNat 32 c.c) (BitVec.ofNat 32 c.d) with
      valid := true }
  | .error e => raiseConfigError s e

/-- ENG.COMPLETE: BUSY cleared, DONE set, and the result recorded, all at one edge (R120, R178). It is enabled exactly when
BUSY = 1, which the clock cycle checks. -/
def engComplete (d : Config.IdleDomain) (s : State) : State :=
  { s.record (s.calcNow d) with busy := false, done := true }

end Sys2Proof.Machine
end

