-- ==== Sys2Proof/Machine/ClockCycle.lean ====
section
/-! DEFINITION. One clock cycle: the request, the engine and the reset of the same cycle in the order of
spec/60_exceptions.md R163, and the supply of cycles (spec/70_reset_and_hazards.md R170, R180 to R183). -/

namespace Sys2Proof.Machine

/-- The request of a cycle is decoded and performed; a cycle with `req_valid = 0` is no operation and its response outputs
are (0, 0) (R60, R183). -/
def performRequest (s : State) : Option Request → Host.Outcome State Fault Refusal
  | some r => exec (decode r.toWord) s
  | none => .next (s.respond false 0#32)

/-- The engine's part of a cycle: ENG.COMPLETE if it is due, after the request (R163 b). -/
def engineTurn (d : Config.IdleDomain) (due : Bool) (s : State) : State :=
  if due then engComplete d s else s

/-- One clock cycle (R163): `rst` overrides everything (R163 c, R170, R172); else the request is performed on the state
before completion, and ENG.COMPLETE, when this edge is its edge, after it. The engine's step is enabled by BUSY as it stood
at the start of the cycle, so that a START is never completed at its own edge: LAT is at least 1 (R180). DEDUCED (log
entry 3). -/
def clockCycle (d : Config.IdleDomain) (c : CycleInput) (s : State) : Host.Outcome State Fault Refusal :=
  if c.rst then .next s.resetEdge
  else
    match performRequest s c.req with
    | .next t => .next (engineTurn d (c.complete && s.busy) t)
    | .fault f => .fault f
    | .refused r => .refused r

/-- A cycle in which nothing is presented and the engine, if busy, completes: what follows when the schedule is at its
end. It stands for however many cycles LAT takes (R180 to R182). DESIGN CHOICE (log entry 2). -/
def CycleInput.silent : CycleInput := ⟨false, none, true⟩

/-- The cycle that comes next. -/
def State.nextCycle (s : State) : CycleInput := s.schedule.headD CycleInput.silent

/-- The state with the coming cycle taken off the schedule. -/
def State.advance (s : State) : State := { s with schedule := s.schedule.tail }

/-- A cycle that presents one request and does nothing else: the engine, busy or not, does not complete in it. The spec
leaves open in which cycle it completes (R180); that it is not the cycle of a request presented so is the model's. DESIGN
CHOICE (log entry 14). -/
def CycleInput.ofRequest (r : Request) : CycleInput := ⟨false, some r, false⟩

/-- The state in which the coming cycle presents the request word `w` (R60), without the engine's completion (log entry
14). -/
def State.present (s : State) (w : ReqWord) : State :=
  { s with schedule := CycleInput.ofRequest (Request.ofWord w) :: s.schedule }

end Sys2Proof.Machine
end

