-- ==== Sys2Proof/Machine/Step.lean ====
section
/-! DEFINITION. The step: one clock cycle of the schedule. -/

namespace Sys2Proof.Machine

/-- One step for either idle-tail domain (R3: IDLE_DOMAIN is an argument of the model). -/
def stepWith (d : Config.IdleDomain) (s : State) : Host.Outcome State Fault Refusal :=
  clockCycle d s.nextCycle s.advance

/-- One step of the hardware, whose idle-tail domain is CYC (R121). -/
def step (s : State) : Host.Outcome State Fault Refusal := stepWith Config.idleDomain s

/-- The request of the table word `w`, presented in the coming cycle, in which the engine does not complete: requests
presented one by one hold off a completion that is due, a schedule does not (log entry 14). -/
def State.withFetchWord (s : State) (nbits w : Nat) : State := s.present (tableWord nbits w)

end Sys2Proof.Machine
end

