-- ==== Sys2Proof/Machine/Program.lean ====
section
/-! DEFINITION. The spec's notation for sequences of operations and its pseudo-operations (spec/30_encoding.md R69, R70),
as schedules of clock cycles, and the end of a run and what is observed of it (spec/70_reset_and_hazards.md R182). Nothing
in the step uses this file. -/

namespace Sys2Proof.Machine

/-- One line of the notation (R69). -/
inductive Line where
  /-- `WR <REG>, <value>`. -/
  | wr (r : Reg) (v : Word)
  /-- `RD <REG>`. -/
  | rd (r : Reg)
  /-- `CMD NOP | START | CLEAR | <value>`, by the value. -/
  | cmd (v : Word)
  /-- `RAW <39-bit hex>`. -/
  | raw (w : ReqWord)
  /-- `-- ENG.COMPLETE`. -/
  | engComplete
  /-- `-- RESET`. -/
  | reset
deriving DecidableEq, Repr

/-- The request word of a line; the `--` lines are not requests (R65, R69). -/
def Line.word : Line → Option ReqWord
  | .wr r v => some (mkReq true r.offset v)
  | .rd r => some (mkReq false r.offset 0#32)
  | .cmd v => some (mkReq true Reg.cmd.offset v)
  | .raw w => some w
  | .engComplete => none
  | .reset => none

/-- The clock cycle of a line: exactly one request, the engine's completion or a reset (R69). -/
def Line.cycle : Line → CycleInput
  | .engComplete => ⟨false, none, true⟩
  | .reset => ⟨true, none, false⟩
  | l => ⟨false, l.word.map Request.ofWord, false⟩

/-- `SETDIV i, f`: `WR CLKDIV, i*256 + f` (R70). -/
def setdiv (i : BitVec 16) (f : BitVec 8) : List Line := [.wr .clkdiv (0#8 ++ i ++ f)]

/-- `CONFIG S, Q, F, PW, PS` (R70). -/
def config (S Q F PW PS : Word) : List Line :=
  [.wr .sysclkHz S, .wr .clkdiv Q, .wr .freqHz F, .wr .pwUs PW, .wr .psUs PS]

/-- `WAIT`, with `polls + 1` reads of STATUS: how many there are is LAT's affair (R70, R180). -/
def wait (polls : Nat) : List Line := List.replicate (polls + 1) (.rd .status)

/-- `CALC`: `CMD START ; WAIT`, the completion falling before the last read of the wait (R70). -/
def calcLines (polls : Nat) : List Line :=
  .cmd 1#32 :: (List.replicate polls (.rd .status) ++ [.engComplete, .rd .status])

/-- `RDCOUNTS`: the order A, B, C, D (R29, R70). -/
def rdcounts : List Line := [.rd .countA, .rd .countB, .rd .countC, .rd .countD]

/-- A state with the lines of a program scheduled. -/
def State.withProgram (s : State) (p : List Line) : State := { s with schedule := p.map Line.cycle }

/-- A run is over when the host has issued its last request, so that no coming cycle presents one, and BUSY = 0 (R182). -/
def State.finished (s : State) : Bool := s.schedule.all (fun c => c.req.isNone) && !s.busy

/-- The response returned to the request of the cycle just run, where it presented one: `t` is the state after the step from
`s` (R28, R183). -/
def responseTo (s t : State) : List Response := if s.nextCycle.req.isSome then [t.rsp] else []

/-- The responses returned to the requests of `n` steps, one for each request, in order (R182). -/
def responses : Nat → State → List Response
  | 0, _ => []
  | n + 1, s =>
    match step s with
    | .next t => responseTo s t ++ responses n t
    | .fault _ => []
    | .refused _ => []

/-- The observable end state of a run: the items of R10, STATUS as the word it reads as (CMD has no storage), and the
responses returned to each request (R182). -/
structure EndState where
  sysclkHz : Word
  clkdiv : Word
  freqHz : Word
  pwUs : Word
  psUs : Word
  status : Word
  countA : Word
  countB : Word
  countC : Word
  countD : Word
  responses : List Response
deriving DecidableEq, Repr

/-- What is observed of a run that ends in a state, with the responses its requests got (R182). -/
def State.observe (s : State) (rs : List Response) : EndState where
  sysclkHz := s.sysclkHz
  clkdiv := s.clkdiv
  freqHz := s.freqHz
  pwUs := s.pwUs
  psUs := s.psUs
  status := s.statusWord
  countA := s.countA
  countB := s.countB
  countC := s.countC
  countD := s.countD
  responses := rs

/-- The state in which a run is over, when it is over within `n` steps: the first finished one (R182). -/
def runToEnd : Nat → State → Option State
  | 0, s => if s.finished then some s else none
  | n + 1, s =>
    if s.finished then some s
    else
      match step s with
      | .next t => runToEnd n t
      | .fault _ => none
      | .refused _ => none

/-- The observable end state of the run of what is scheduled (R182). One step more than the schedule holds is enough: a busy
engine completes after the schedule's end (log entry 2), and no request is left there. -/
def State.runProgram (s : State) : Option EndState :=
  (runToEnd (s.schedule.length + 1) s).map fun t => t.observe (responses (s.schedule.length + 1) s)

end Sys2Proof.Machine
end

