-- ==== Sys2Proof/Safety.lean ====
section
/-! DEFINITION. The invariants of spec/10_state.md R30, and the words in which statements speak of the state. -/

namespace Sys2Proof.Machine

/-- The items of R30 that speak of one state, by its numbers. Item 7 speaks of the moment of ENG.COMPLETE and item 9 of the
word a read of STATUS returns; statements of their own say them. -/
structure StateInv (s : State) : Prop where
  /-- Item 1. -/
  busy_clear : s.busy = true → s.done = false ∧ s.valid = false ∧ s.err = false ∧ s.errcode = 0#4
  /-- Item 2. -/
  done_iff : s.done = true ↔ (s.valid = true ∨ s.err = true)
  /-- Item 2. -/
  not_both : ¬ (s.valid = true ∧ s.err = true)
  /-- Item 3. -/
  err_code : s.err = true → s.errcode = 1#4 ∨ s.errcode = 2#4 ∨ s.errcode = 3#4 ∨ s.errcode = 4#4
  /-- Item 3. -/
  no_err_code : s.err = false → s.errcode = 0#4
  /-- Item 4. -/
  counts_zero : s.valid = false → s.countA = 0#32 ∧ s.countB = 0#32 ∧ s.countC = 0#32 ∧ s.countD = 0#32
  /-- Item 5. -/
  c_is_a : s.countC = s.countA
  /-- Item 6. -/
  valid_calc : s.valid = true → s.calcNow Config.idleDomain
    = .ok ⟨s.countA.toNat, s.countB.toNat, s.countC.toNat, s.countD.toNat⟩
  /-- Item 8. -/
  clkdiv_top : s.clkdiv.extractLsb' 24 8 = 0#8

/-- The five parameter registers of two states are equal. -/
def State.sameParams (s t : State) : Prop :=
  t.sysclkHz = s.sysclkHz ∧ t.clkdiv = s.clkdiv ∧ t.freqHz = s.freqHz ∧ t.pwUs = s.pwUs ∧ t.psUs = s.psUs

/-- The four counts of two states are equal. -/
def State.sameCounts (s t : State) : Prop :=
  t.countA = s.countA ∧ t.countB = s.countB ∧ t.countC = s.countC ∧ t.countD = s.countD

/-- BUSY, DONE, VALID, ERR and ERRCODE of two states are equal: all of STATUS but IGN. -/
def State.sameOutcome (s t : State) : Prop :=
  t.busy = s.busy ∧ t.done = s.done ∧ t.valid = s.valid ∧ t.err = s.err ∧ t.errcode = s.errcode

/-- The operation the coming cycle performs: none when `rst` is high or no request is presented. -/
def State.nextOp (s : State) : Option Instr :=
  if s.nextCycle.rst then none else s.nextCycle.req.map fun r => decode r.toWord

/-- ENG.COMPLETE falls at the edge of the coming cycle: BUSY, not reset, and the cycle is the engine's (R120, R163). -/
def State.completes (s : State) : Bool := !s.nextCycle.rst && s.nextCycle.complete && s.busy

/-- `k` steps of the hardware: the host's run of the core. -/
def run (k : Nat) (s : State) : Host.Outcome State Fault Refusal := Sys2Proof.core.run k s

end Sys2Proof.Machine
end

