-- ==== Sys2Proof/Certificates/Slice0/Obligations.lean ====
section
/-! DEFINITION. The statements about DCALC, for the provers. Each docstring names the rule of spec/ it formalises. -/

open Sys2Proof Sys2Proof.Machine

/-! ## The request word, the decoder and the encoder -/

/-- R60: `REQ = {W, ADDR, DATA}`; the top two hexadecimal digits are `offset` for a read and `0x40 + offset` for a write;
the ports and the word determine each other; a cycle with `req_valid = 0` is no operation. -/
def Obligations.RequestWordIsThePorts : Prop :=
  (∀ r : Request,
    r.toWord.toNat = ((if r.write then 0x40 else 0x00) + r.addr.toNat) * 2 ^ 32 + r.wdata.toNat
    ∧ r.toWord.getLsbD 38 = r.write
    ∧ r.toWord.extractLsb' 32 6 = r.addr
    ∧ r.toWord.extractLsb' 0 32 = r.wdata
    ∧ Request.ofWord r.toWord = r)
  ∧ (∀ w : ReqWord, (Request.ofWord w).toWord = w)
  ∧ (∀ d s, clockCycle d ⟨false, none, false⟩ s = .next { s with rsp := ⟨false, 0#32⟩ })

/-- R64: the operation of a word is the first row of the 26 whose `(REQ and mask) = match`; rows 1 to 19 and 21 to 25 are
pairwise disjoint; row 26 is taken by exactly the 48 misaligned offsets and the five unmapped words, for reads and writes
alike; rows 21 to 26 are bus errors. -/
def Obligations.DecodeIsFirstMatchingRow : Prop :=
  opcodeTable.length = 26
  ∧ (∀ w : ReqWord, (opcodeTable.find? (rowMatches w)).map (·.mnemonic) = some (decode w).mnemonic)
  ∧ (∀ w : ReqWord, ∀ r₁ ∈ opcodeTable, ∀ r₂ ∈ opcodeTable, r₁ ≠ r₂ →
      r₁.mnemonic ≠ "CMD.RSVD" → r₁.mnemonic ≠ "BUSERR" → r₂.mnemonic ≠ "CMD.RSVD" → r₂.mnemonic ≠ "BUSERR" →
      ¬ (rowMatches w r₁ = true ∧ rowMatches w r₂ = true))
  ∧ (∀ w : ReqWord, (decode w).mnemonic = "BUSERR" ↔
      ((w.extractLsb' 32 6).toNat % 4 ≠ 0 ∨ (w.extractLsb' 32 6).toNat ∈ [0x1C, 0x30, 0x34, 0x38, 0x3C]))
  ∧ ((List.range 64).countP fun a => a % 4 != 0) = 48
  ∧ (∀ (w : ReqWord) (s : State),
      (decode w).mnemonic ∈ ["WR.STATUS", "WR.COUNT_A", "WR.COUNT_B", "WR.COUNT_C", "WR.COUNT_D", "BUSERR"] →
      exec (decode w) s = .next { s with rsp := ⟨true, 0#32⟩ })

/-- Decode and encode agree: no bit of an operand is dropped, for every well-formed operation of the table. -/
def Obligations.DecodeOfEncodeIsIdentity : Prop :=
  ∀ i : Instr, i.WellFormed → decode (encode i) = i

/-- The decoder gives well-formed operations only, so that every request word runs as one the encoder can write. -/
def Obligations.DecodeGivesWellFormed : Prop :=
  ∀ w : ReqWord, (decode w).WellFormed

/-- Decode-then-encode is the identity exactly on the canonical words: a read with DATA = 0, a write of CLKDIV with
`DATA[31:24] = 0`, any other write. The table's last row always matches. -/
def Obligations.EncodeOfDecodeOnCanonicalWords : Prop :=
  (∀ w : ReqWord, encode (decode w) = w ↔
    ((w.getLsbD 38 = false → w.extractLsb' 0 32 = 0#32)
      ∧ (w.getLsbD 38 = true → w.extractLsb' 32 6 = 0x04#6 → w.extractLsb' 24 8 = 0#8)))
  ∧ opcodeTable.getLast?.map (fun r => (r.pattern, r.mask)) = some (0#39, 0#39)

/-- The worked encodings of 30_encoding.md section 5 (R71, the spec's own inference), written out, decode to the operations
they are written for, and those encode to them. -/
def Obligations.WorkedEncodingsDecode : Prop :=
  decode 0x4007735940#39 = .wrSysclkHz 125000000#32 ∧ encode (.wrSysclkHz 125000000#32) = 0x4007735940#39
  ∧ mkReq true 0x00#6 0x07735940#32 = 0x4007735940#39
  ∧ decode 0x4400000C80#39 = .wrClkdiv 3200#24 ∧ encode (.wrClkdiv 3200#24) = 0x4400000C80#39
  ∧ 12 * 256 + 128 = 3200
  ∧ decode 0x5400000001#39 = .cmdStart ∧ encode .cmdStart = 0x5400000001#39
  ∧ decode 0x1800000000#39 = .rdStatus ∧ encode .rdStatus = 0x1800000000#39
  ∧ decode 0x2C00000000#39 = .rdCountD ∧ encode .rdCountD = 0x2C00000000#39
  ∧ decode 0x6000000007#39 = .wrCountA 7#32 ∧ encode (.wrCountA 7#32) = 0x6000000007#39
  ∧ decode 0x0100000000#39 = .buserr false 0x01#6 0#32 ∧ encode (.buserr false 0x01#6 0#32) = 0x0100000000#39
  ∧ (∀ s, exec (.wrCountA 7#32) s = .next { s with rsp := ⟨true, 0#32⟩ })
  ∧ (∀ s, exec (.buserr false 0x01#6 0#32) s = .next { s with rsp := ⟨true, 0#32⟩ })

/-- R66: the three classes of non-ordinary encoding, (a) illegal, (b) reserved command, (c) reserved data bits, and no
others; CMD.NOP does nothing; the 2^32 encodings of a read are one operation. -/
def Obligations.NonOrdinaryEncodings : Prop :=
  (∀ (w : ReqWord) (s : State),
    (decode w).mnemonic ∈ ["WR.STATUS", "WR.COUNT_A", "WR.COUNT_B", "WR.COUNT_C", "WR.COUNT_D", "BUSERR"] →
    exec (decode w) s = .next { s with rsp := ⟨true, 0#32⟩ })
  ∧ (∀ (data : Word) (s : State), data ≠ 0#32 → data ≠ 1#32 → data ≠ 2#32 →
    decode (mkReq true 0x14#6 data) = .cmdRsvd data
    ∧ exec (decode (mkReq true 0x14#6 data)) s = .next { s with ign := true, rsp := ⟨false, 0#32⟩ })
  ∧ (∀ data data' : Word, data.extractLsb' 0 24 = data'.extractLsb' 0 24 →
    decode (mkReq true 0x04#6 data) = decode (mkReq true 0x04#6 data'))
  ∧ (∀ w : ReqWord,
    (decode w).mnemonic ∉ ["WR.STATUS", "WR.COUNT_A", "WR.COUNT_B", "WR.COUNT_C", "WR.COUNT_D", "BUSERR", "CMD.RSVD"] →
    (decode w).mnemonic ∈ ["RD.SYSCLK_HZ", "RD.CLKDIV", "RD.FREQ_HZ", "RD.PW_US", "RD.PS_US", "RD.CMD", "RD.STATUS",
      "RD.COUNT_A", "RD.COUNT_B", "RD.COUNT_C", "RD.COUNT_D", "WR.SYSCLK_HZ", "WR.CLKDIV", "WR.FREQ_HZ", "WR.PW_US",
      "WR.PS_US", "CMD.NOP", "CMD.START", "CMD.CLEAR"])
  ∧ (∀ s, exec .cmdNop s = .next { s with rsp := ⟨false, 0#32⟩ })
  ∧ (∀ (a : Addr) (data data' : Word), decode (mkReq false a data) = decode (mkReq false a data'))

/-- R62: `RSP = {ERR, RDATA}`; every request is answered in its cycle; ERR = 1 exactly for the bus errors; RDATA is the
register's value for a successful read, and 0 for every write and every bus error. -/
def Obligations.ResponseOfEveryRequest : Prop :=
  (∀ r : Response, r.toWord.getLsbD 32 = r.err ∧ r.toWord.extractLsb' 0 32 = r.rdata)
  ∧ (∀ (w : ReqWord) (s : State), ∃ t, exec (decode w) s = .next t
      ∧ (t.rsp.err = true ↔
          (decode w).mnemonic ∈ ["WR.STATUS", "WR.COUNT_A", "WR.COUNT_B", "WR.COUNT_C", "WR.COUNT_D", "BUSERR"])
      ∧ (t.rsp.err = true → t.rsp.rdata = 0#32)
      ∧ (w.getLsbD 38 = true → t.rsp.rdata = 0#32)
      ∧ (w.getLsbD 38 = false → ∀ r, Reg.ofAddr (w.extractLsb' 32 6) = some r → t.rsp = ⟨false, readReg s r⟩))

/-! ## Reads -/

/-- R81 to R85: the reads of the parameter registers, whatever their DATA, answer in every state with the register's value,
CLKDIV with bits 31:24 zero, and change nothing else. -/
def Obligations.ParameterReadsReturnTheRegister : Prop :=
  (∀ data : Word,
    decode (mkReq false 0x00#6 data) = .rdSysclkHz
    ∧ decode (mkReq false 0x04#6 data) = .rdClkdiv
    ∧ decode (mkReq false 0x08#6 data) = .rdFreqHz
    ∧ decode (mkReq false 0x0C#6 data) = .rdPwUs
    ∧ decode (mkReq false 0x10#6 data) = .rdPsUs)
  ∧ ∀ s : State,
    exec .rdSysclkHz s = .next { s with rsp := ⟨false, s.sysclkHz⟩ }
    ∧ exec .rdClkdiv s = .next { s with rsp := ⟨false, 0#8 ++ s.clkdiv.extractLsb' 0 24⟩ }
    ∧ exec .rdFreqHz s = .next { s with rsp := ⟨false, s.freqHz⟩ }
    ∧ exec .rdPwUs s = .next { s with rsp := ⟨false, s.pwUs⟩ }
    ∧ exec .rdPsUs s = .next { s with rsp := ⟨false, s.psUs⟩ }

/-- R88 to R91: the reads of the counts, whatever their DATA, answer in every state, valid or not, with the register's value
and change nothing else; where the invariants hold COUNT_C reads as COUNT_A and all four read 0 while VALID = 0; and a valid
result can be 0. -/
def Obligations.CountReadsReturnTheRegister : Prop :=
  (∀ data : Word,
    decode (mkReq false 0x20#6 data) = .rdCountA
    ∧ decode (mkReq false 0x24#6 data) = .rdCountB
    ∧ decode (mkReq false 0x28#6 data) = .rdCountC
    ∧ decode (mkReq false 0x2C#6 data) = .rdCountD)
  ∧ (∃ s : State, StateInv s ∧ s.valid = true ∧ s.countA = 0#32 ∧ s.countB = 0#32 ∧ s.countC = 0#32 ∧ s.countD = 0#32)
  ∧ ∀ s : State,
    exec .rdCountA s = .next { s with rsp := ⟨false, s.countA⟩ }
    ∧ exec .rdCountB s = .next { s with rsp := ⟨false, s.countB⟩ }
    ∧ exec .rdCountC s = .next { s with rsp := ⟨false, s.countC⟩ }
    ∧ exec .rdCountD s = .next { s with rsp := ⟨false, s.countD⟩ }
    ∧ (StateInv s → exec .rdCountC s = .next { s with rsp := ⟨false, s.countA⟩ })
    ∧ (StateInv s → s.valid = false →
        exec .rdCountA s = .next { s with rsp := ⟨false, 0#32⟩ } ∧ exec .rdCountB s = .next { s with rsp := ⟨false, 0#32⟩ }
        ∧ exec .rdCountC s = .next { s with rsp := ⟨false, 0#32⟩ }
        ∧ exec .rdCountD s = .next { s with rsp := ⟨false, 0#32⟩ })

/-- R86: RD.CMD is legal in every state, returns 0 and performs no command; after `CMD START` it reads 0. -/
def Obligations.CommandRegisterReadsZero : Prop :=
  (∀ data : Word, decode (mkReq false 0x14#6 data) = .rdCmd)
  ∧ (∀ s, exec .rdCmd s = .next { s with rsp := ⟨false, 0#32⟩ })
  ∧ (∀ s t, exec .cmdStart s = .next t → exec .rdCmd t = .next { t with rsp := ⟨false, 0#32⟩ })

/-- R87: RD.STATUS returns ERRCODE in bits 11:8, IGN, ERR, VALID, DONE, BUSY in bits 4 to 0 and zeros elsewhere, and
clears nothing; where the invariants hold its value is one of seven, or of these with 0x010 added; after reset it is 0, a
valid result without IGN reads 0x006, and a START with CLKDIV = 0 has completed to 0x10A. -/
def Obligations.StatusReadReturnsTheFields : Prop :=
  (∀ data : Word, decode (mkReq false 0x18#6 data) = .rdStatus)
  ∧ (∀ s, ∃ v : Word, exec .rdStatus s = .next { s with rsp := ⟨false, v⟩ }
      ∧ v.toNat = s.errcode.toNat * 256 + s.ign.toNat * 16 + s.err.toNat * 8 + s.valid.toNat * 4 + s.done.toNat * 2
          + s.busy.toNat
      ∧ (StateInv s → v.toNat - s.ign.toNat * 16 ∈ [0x000, 0x001, 0x006, 0x10A, 0x20A, 0x30A, 0x40A])
      ∧ (StateInv s → s.valid = true → s.ign = false → v = 0x00000006#32))
  ∧ exec .rdStatus State.reset = .next { State.reset with rsp := ⟨false, 0#32⟩ }
  ∧ (∀ s, StateInv s → s.busy = false → s.valid = false → s.ign = false → s.clkdiv = 0#32 →
      ∃ t, run 2 { s with schedule := [⟨false, some ⟨true, 0x14#6, 1#32⟩, false⟩, ⟨false, none, true⟩] } = .next t
        ∧ exec .rdStatus t = .next { t with rsp := ⟨false, 0x0000010A#32⟩ })

/-- R80: a read of a mapped register, whatever its DATA, in every state, changes no state, is never ignored, returns
`err = 0` and the same as `MemRead(ADDR, 4)`; repeated, it returns the same. -/
def Obligations.ReadsChangeNothing : Prop :=
  ∀ (a : Addr) (data : Word) (r : Reg) (s : State), Reg.ofAddr a = some r →
    exec (decode (mkReq false a data)) s = .next { s with rsp := memRead s a }
    ∧ memRead s a = ⟨false, readReg s r⟩
    ∧ ∀ t, exec (decode (mkReq false a data)) s = .next t → exec (decode (mkReq false a data)) t = .next t

/-! ## Writes to the parameter registers -/

/-- R92: a parameter write is ignored while locked (IGN set, response (0, 0), nothing else); not locked, the register takes
the value, any value, whatever DONE and ERR are, and nothing else changes. -/
def Obligations.ParameterWritesStoreUnlessLocked : Prop :=
  (∀ s : State, s.busy = false → s.valid = false →
    (∀ data, exec (.wrSysclkHz data) s = .next { s with sysclkHz := data, rsp := ⟨false, 0#32⟩ })
    ∧ (∀ q, exec (.wrClkdiv q) s = .next { s with clkdiv := 0#8 ++ q, rsp := ⟨false, 0#32⟩ })
    ∧ (∀ data, exec (.wrFreqHz data) s = .next { s with freqHz := data, rsp := ⟨false, 0#32⟩ })
    ∧ (∀ data, exec (.wrPwUs data) s = .next { s with pwUs := data, rsp := ⟨false, 0#32⟩ })
    ∧ (∀ data, exec (.wrPsUs data) s = .next { s with psUs := data, rsp := ⟨false, 0#32⟩ }))
  ∧ (∀ s : State, (s.busy = true ∨ s.valid = true) →
    (∀ data, exec (.wrSysclkHz data) s = .next { s with ign := true, rsp := ⟨false, 0#32⟩ })
    ∧ (∀ q, exec (.wrClkdiv q) s = .next { s with ign := true, rsp := ⟨false, 0#32⟩ })
    ∧ (∀ data, exec (.wrFreqHz data) s = .next { s with ign := true, rsp := ⟨false, 0#32⟩ })
    ∧ (∀ data, exec (.wrPwUs data) s = .next { s with ign := true, rsp := ⟨false, 0#32⟩ })
    ∧ (∀ data, exec (.wrPsUs data) s = .next { s with ign := true, rsp := ⟨false, 0#32⟩ }))

/-- WR.CLKDIV stores `DATA[23:0]` alone: `DATA[31:24]` is dropped, is no error and leaves no trace, and reads back 0. -/
def Obligations.DividerWriteDropsTopByte : Prop :=
  ∀ (s : State) (data : Word), s.busy = false → s.valid = false →
    exec (decode (mkReq true 0x04#6 data)) s =
      .next { s with clkdiv := 0#8 ++ data.extractLsb' 0 24, rsp := ⟨false, 0#32⟩ }
    ∧ ∀ t, exec (decode (mkReq true 0x04#6 data)) s = .next t →
        exec .rdClkdiv t = .next { t with rsp := ⟨false, 0#8 ++ data.extractLsb' 0 24⟩ }

/-- The frame of a parameter write through the byte view of the window: a write that is stored changes the four bytes of
its register, which then hold the value least significant byte first, and no other byte; a write that is ignored changes no
byte but that of IGN, at 0x18. -/
def Obligations.ParameterWriteWindowFrame : Prop :=
  ∀ (s t : State) (base : Addr) (data : Word), base ∈ [0x00#6, 0x04#6, 0x08#6, 0x0C#6, 0x10#6] →
    exec (decode (mkReq true base data)) s = .next t →
    (s.busy = false → s.valid = false →
      (∀ off : Addr, off.toNat / 4 ≠ base.toNat / 4 → windowByte t off = windowByte s off)
      ∧ windowByte t base = some (data.extractLsb' 0 8)
      ∧ windowByte t (base + 1#6) = some (data.extractLsb' 8 8)
      ∧ windowByte t (base + 2#6) = some (data.extractLsb' 16 8)
      ∧ windowByte t (base + 3#6) = some (if base = 0x04#6 then 0#8 else data.extractLsb' 24 8))
    ∧ ((s.busy = true ∨ s.valid = true) → ∀ off : Addr, off ≠ 0x18#6 → windowByte t off = windowByte s off)

/-- Accesses are idempotent: a parameter write repeated at once leaves the state of one write, locked or not; a START
repeated does not. -/
def Obligations.ParameterWritesAreIdempotent : Prop :=
  (∀ (s t : State) (base : Addr) (data : Word), base ∈ [0x00#6, 0x04#6, 0x08#6, 0x0C#6, 0x10#6] →
    exec (decode (mkReq true base data)) s = .next t → exec (decode (mkReq true base data)) t = .next t)
  ∧ (∀ s t : State, s.busy = false → s.valid = false → s.ign = false → exec .cmdStart s = .next t →
    exec .cmdStart t ≠ .next t)

/-! ## Illegal requests -/

/-- R98 to R103: a write to STATUS or to a count, and any request at a misaligned or unmapped offset, is a bus error in
every state: the response is (1, 0) and nothing changes, IGN included. -/
def Obligations.IllegalRequestsAnswerBusError : Prop :=
  (∀ data : Word,
    decode (mkReq true 0x18#6 data) = .wrStatus data
    ∧ decode (mkReq true 0x20#6 data) = .wrCountA data
    ∧ decode (mkReq true 0x24#6 data) = .wrCountB data
    ∧ decode (mkReq true 0x28#6 data) = .wrCountC data
    ∧ decode (mkReq true 0x2C#6 data) = .wrCountD data)
  ∧ (∀ (write : Bool) (a : Addr) (data : Word),
    (a.toNat % 4 ≠ 0 ∨ a.toNat ∈ [0x1C, 0x30, 0x34, 0x38, 0x3C]) →
    ∃ data', decode (mkReq write a data) = .buserr write a data')
  ∧ (∀ s : State,
    (∀ data, exec (.wrStatus data) s = .next { s with rsp := ⟨true, 0#32⟩ })
    ∧ (∀ data, exec (.wrCountA data) s = .next { s with rsp := ⟨true, 0#32⟩ })
    ∧ (∀ data, exec (.wrCountB data) s = .next { s with rsp := ⟨true, 0#32⟩ })
    ∧ (∀ data, exec (.wrCountC data) s = .next { s with rsp := ⟨true, 0#32⟩ })
    ∧ (∀ data, exec (.wrCountD data) s = .next { s with rsp := ⟨true, 0#32⟩ })
    ∧ (∀ write a data, exec (.buserr write a data) s = .next { s with rsp := ⟨true, 0#32⟩ }))

/-- R157: a request is never both a bus error and something else: a bus error leaves every item of state, IGN included,
and an ignored request, IGN set before or not, answers (0, 0) and changes nothing but IGN; IGN is newly set by no other. -/
def Obligations.BusErrorOrIgnoredNeverBoth : Prop :=
  ∀ (i : Instr) (s : State), ∃ t, exec i s = .next t
    ∧ (t.rsp.err = true → t = { s with rsp := ⟨true, 0#32⟩ })
    ∧ ((i.mnemonic ∈ ["WR.SYSCLK_HZ", "WR.CLKDIV", "WR.FREQ_HZ", "WR.PW_US", "WR.PS_US", "CMD.START"] ∧ s.locked = true)
        ∨ (i = .cmdClear ∧ s.busy = true) ∨ i.mnemonic = "CMD.RSVD" →
      t = { s with ign := true, rsp := ⟨false, 0#32⟩ })
    ∧ (s.ign = false → t.ign = true → t = { s with ign := true, rsp := ⟨false, 0#32⟩ })

/-! ## Commands -/

/-- R110: the code of a command is the whole of DATA; every command, ignored or not, answers (0, 0), and none raises a bus
error or, by itself, a configuration error. -/
def Obligations.CommandsAnswerZero : Prop :=
  ∀ data : Word,
    decode (mkReq true 0x14#6 data) = (if data = 0#32 then .cmdNop else if data = 1#32 then .cmdStart
      else if data = 2#32 then .cmdClear else .cmdRsvd data)
    ∧ ∀ s, ∃ t, exec (decode (mkReq true 0x14#6 data)) s = .next t ∧ t.rsp = ⟨false, 0#32⟩
        ∧ (t.err = true → s.err = true) ∧ (t.errcode = s.errcode ∨ t.errcode = 0#4)

/-- R111: CMD.NOP leaves every register and STATUS as they were, in every state; each of the three other writes to CMD is
recorded in IGN in some state. -/
def Obligations.CommandNopDoesNothing : Prop :=
  decode 0x5400000000#39 = .cmdNop
  ∧ (∀ s, exec .cmdNop s = .next { s with rsp := ⟨false, 0#32⟩ })
  ∧ (∀ s, ∃ t u v, exec .cmdStart { s with busy := true } = .next t ∧ t.ign = true
      ∧ exec .cmdClear { s with busy := true } = .next u ∧ u.ign = true
      ∧ exec (.cmdRsvd 3#32) s = .next v ∧ v.ign = true)

/-- CMD.START: accepted when BUSY = 0 and VALID = 0, whatever DONE and ERR are: BUSY set, DONE, ERR and ERRCODE cleared, IGN
and the parameters as they were; ignored when BUSY or VALID. -/
def Obligations.CommandStart : Prop :=
  decode 0x5400000001#39 = .cmdStart
  ∧ (∀ s, s.busy = false → s.valid = false → exec .cmdStart s = .next
      { s with busy := true, done := false, err := false, errcode := 0#4, rsp := ⟨false, 0#32⟩ })
  ∧ (∀ s, (s.busy = true ∨ s.valid = true) → exec .cmdStart s = .next { s with ign := true, rsp := ⟨false, 0#32⟩ })

/-- R113: CMD.CLEAR, accepted when BUSY = 0, clears DONE, VALID, ERR, ERRCODE, IGN and the four counts and keeps the
parameters; while BUSY it is ignored. It is the only operation that releases the VALID lock or clears IGN. After it STATUS
reads 0, the outputs are 0, and the state is the reset state but for the parameters. -/
def Obligations.CommandClear : Prop :=
  decode 0x5400000002#39 = .cmdClear
  ∧ (∀ s, s.busy = false → exec .cmdClear s = .next
      { s with done := false, valid := false, err := false, errcode := 0#4, ign := false, countA := 0#32,
               countB := 0#32, countC := 0#32, countD := 0#32, rsp := ⟨false, 0#32⟩ })
  ∧ (∀ s, s.busy = true → exec .cmdClear s = .next { s with ign := true, rsp := ⟨false, 0#32⟩ })
  ∧ (∀ (i : Instr) (s t : State), exec i s = .next t →
      ((s.valid = true ∧ t.valid = false) ∨ (s.ign = true ∧ t.ign = false)) → i = .cmdClear)
  ∧ (∀ s : State, (s.valid = true → (engComplete .cyc s).valid = true) ∧ (engComplete .cyc s).ign = s.ign)
  ∧ (∀ s t, s.busy = false → exec .cmdClear s = .next t →
      t.statusWord = 0#32 ∧ t.sideband = ⟨0#32, 0#32, 0#32, 0#32, false, false, false, false⟩
      ∧ t = { State.reset with sysclkHz := s.sysclkHz, clkdiv := s.clkdiv, freqHz := s.freqHz, pwUs := s.pwUs,
                               psUs := s.psUs, schedule := s.schedule })

/-- R114: a write to CMD with DATA not 0, 1 or 2 sets IGN and does nothing else, in every state, and answers (0, 0). -/
def Obligations.ReservedCommandOnlySetsIgn : Prop :=
  (∀ data : Word, data ≠ 0#32 → data ≠ 1#32 → data ≠ 2#32 → decode (mkReq true 0x14#6 data) = .cmdRsvd data)
  ∧ (∀ data s, exec (.cmdRsvd data) s = .next { s with ign := true, rsp := ⟨false, 0#32⟩ })
  ∧ decode 0x5400000003#39 = .cmdRsvd 3#32 ∧ decode 0x5400000101#39 = .cmdRsvd 0x101#32
  ∧ decode 0x5480000001#39 = .cmdRsvd 0x80000001#32
  ∧ (∀ t, exec (.cmdRsvd 3#32) State.reset = .next t → t.statusWord = 0x00000010#32)

/-! ## The function CALC -/

/-- R155: one calculation reports one code, the first of DIV0, FREQ0, TIMING, RANGE whose cause holds. The cause of TIMING
is said of the exact period of 1000000 / F microseconds, that of RANGE of the exact period in cycles. -/
def Obligations.CalcReportsFirstCause : Prop :=
  ∀ (d : Config.IdleDomain) (S Q F PW PS : ℕ),
    (calcDelay d S Q F PW PS = .error .div0 ↔ Q = 0)
    ∧ (calcDelay d S Q F PW PS = .error .freq0 ↔ Q ≠ 0 ∧ F = 0)
    ∧ (calcDelay d S Q F PW PS = .error .timing ↔ Q ≠ 0 ∧ F ≠ 0 ∧ (1000000 : ℚ) / F ≤ 2 * PW + PS)
    ∧ (calcDelay d S Q F PW PS = .error .range ↔
        Q ≠ 0 ∧ F ≠ 0 ∧ ¬ (1000000 : ℚ) / F ≤ 2 * PW + PS ∧ 4294967295 < ⌊((S : ℚ) / (Q / 256)) / F⌋)
    ∧ ((∃ c, calcDelay d S Q F PW PS = .ok c) ↔
        Q ≠ 0 ∧ F ≠ 0 ∧ ¬ (1000000 : ℚ) / F ≤ 2 * PW + PS ∧ ⌊((S : ℚ) / (Q / 256)) / F⌋ ≤ 4294967295)

/-- CALC computes the exact formula and truncates once: with f = S / (Q / 256) hertz, a count is the floor of the exact
duration in cycles, less 4, floored at zero, over the integers, where nothing wraps or is cut at zero on the way. -/
def Obligations.CalcIsTheExactFormula : Prop :=
  ∀ (d : Config.IdleDomain) (S Q F PW PS : ℕ) (c : Counts), calcDelay d S Q F PW PS = .ok c →
    let f : ℚ := (S : ℚ) / ((Q : ℚ) / 256)
    let a : ℤ := ⌊(PW : ℚ) * f * (1 / 1000000)⌋
    let b : ℤ := ⌊(PS : ℚ) * f * (1 / 1000000)⌋
    let idle : ℤ := match d with
      | .cyc => ⌊f / F⌋ - a - b - a
      | .us => ⌊((1000000 : ℚ) / F - (2 * PW + PS)) * f * (1 / 1000000)⌋
    (c.a : ℤ) = max (a - 4) 0 ∧ (c.b : ℤ) = max (b - 4) 0 ∧ (c.c : ℤ) = max (a - 4) 0 ∧ (c.d : ℤ) = max (idle - 4) 0

/-- What R132 derives (the spec's own inference): the raw counts sum to P_raw exactly when the domain is CYC, and lie between P_raw - 3 and P_raw when it is US. -/
def Obligations.RawCountsSumToPeriod : Prop :=
  ∀ (d : Config.IdleDomain) (S Q F PW PS : ℕ) (c : Counts), calcDelay d S Q F PW PS = .ok c →
    durationRaw S Q PW + durationRaw S Q PS + durationRaw S Q PW + idleRawCyc S Q F PW PS = periodRaw S Q F
    ∧ periodRaw S Q F ≤ durationRaw S Q PW + durationRaw S Q PS + durationRaw S Q PW + idleRawUs S Q F PW PS + 3
    ∧ durationRaw S Q PW + durationRaw S Q PS + durationRaw S Q PW + idleRawUs S Q F PW PS ≤ periodRaw S Q F

/-- What R133 derives (the spec's own inference): a longer requested duration never gives a smaller raw or stored count; the raw idle tail never grows with either
duration, in both domains. -/
def Obligations.CountsAreMonotone : Prop :=
  (∀ S Q us us' : ℕ, 0 < Q → us ≤ us' →
    durationRaw S Q us ≤ durationRaw S Q us'
    ∧ satSub (durationRaw S Q us) Config.overhead ≤ satSub (durationRaw S Q us') Config.overhead)
  ∧ (∀ (d : Config.IdleDomain) (S Q F PW PW' PS PS' : ℕ), 0 < Q → PW ≤ PW' → PS ≤ PS' →
    idleRaw d S Q F PW' PS' ≤ idleRaw d S Q F PW PS)

/-- What R134 derives (the spec's own inference): raw counts 0 to 4 are stored as 0, 5 as 1, n > 4 as n - 4, and no stored count exceeds 4294967291. -/
def Obligations.StoredCountFloor : Prop :=
  (∀ n : ℕ, n ≤ 4 → satSub n Config.overhead = 0)
  ∧ satSub 5 Config.overhead = 1
  ∧ (∀ n : ℕ, 4 < n → satSub n Config.overhead = n - 4)
  ∧ (∀ (d : Config.IdleDomain) (S Q F PW PS : ℕ) (c : Counts), calcDelay d S Q F PW PS = .ok c →
      c.a ≤ 4294967291 ∧ c.b ≤ 4294967291 ∧ c.c ≤ 4294967291 ∧ c.d ≤ 4294967291)

/-- What R135 derives (the spec's own inference): when steps 1 to 3 have passed, 2a + b = T*S*256/(Q*M) is at most p = M*S*256/(Q*M*F), less when S > 0, so that the
subtraction of the idle tail never goes below zero; the idle tail may be 0, as when S = 0, without an error. -/
def Obligations.IdleTailNeverNegative : Prop :=
  (∀ S Q F PW PS : ℕ, Q ≠ 0 → F ≠ 0 → (2 * PW + PS) * F < 1000000 →
    let a : ℚ := (PW : ℚ) * S * 256 / (Q * 1000000)
    let b : ℚ := (PS : ℚ) * S * 256 / (Q * 1000000)
    let p : ℚ := (S : ℚ) * 256 / (Q * F)
    2 * a + b = ((2 * PW + PS : ℕ) : ℚ) * S * 256 / (Q * 1000000)
    ∧ p = 1000000 * (S : ℚ) * 256 / (Q * 1000000 * F)
    ∧ 2 * a + b ≤ p ∧ (0 < S → 2 * a + b < p)
    ∧ 2 * ⌊a⌋ + ⌊b⌋ ≤ ⌊2 * a + b⌋ ∧ ⌊2 * a + b⌋ ≤ ⌊p⌋
    ∧ 2 * durationRaw S Q PW + durationRaw S Q PS ≤ periodRaw S Q F)
  ∧ (∀ (d : Config.IdleDomain) (Q F PW PS : ℕ), Q ≠ 0 → F ≠ 0 → (2 * PW + PS) * F < 1000000 →
    idleRaw d 0 Q F PW PS = 0 ∧ calcDelay d 0 Q F PW PS = .ok ⟨0, 0, 0, 0⟩)

/-- What R136 derives (the spec's own inference): the bounds when CALC returns Ok. -/
def Obligations.BoundsOfValidResults : Prop :=
  ∀ (d : Config.IdleDomain) (S Q F PW PS : ℕ) (c : Counts), calcDelay d S Q F PW PS = .ok c →
    (2 * PW + PS) * F ≤ 999999 ∧ PW ≤ 499999 ∧ PS ≤ 999999 ∧ (1 ≤ 2 * PW + PS → F ≤ 999999)
    ∧ durationRaw S Q PW ≤ periodRaw S Q F ∧ durationRaw S Q PS ≤ periodRaw S Q F
    ∧ idleRawCyc S Q F PW PS ≤ periodRaw S Q F ∧ idleRawUs S Q F PW PS ≤ periodRaw S Q F
    ∧ periodRaw S Q F ≤ 4294967295
    ∧ c.a < 2 ^ 32 ∧ c.b < 2 ^ 32 ∧ c.c < 2 ^ 32 ∧ c.d < 2 ^ 32
    ∧ (S = 0 → durationRaw S Q PW = 0 ∧ durationRaw S Q PS = 0 ∧ idleRaw d S Q F PW PS = 0 ∧ periodRaw S Q F = 0
        ∧ c = ⟨0, 0, 0, 0⟩)

/-- What R137 derives (the spec's own inference): the widths of the intermediate values, for 32-bit S, F, PW, PS and a 24-bit Q. -/
def Obligations.WidthsOfIntermediates : Prop :=
  ∀ S Q F PW PS : ℕ, S < 2 ^ 32 → F < 2 ^ 32 → PW < 2 ^ 32 → PS < 2 ^ 32 → Q < 2 ^ 24 →
    requestedUs PW PS ≤ 3 * (2 ^ 32 - 1) ∧ requestedUs PW PS < 2 ^ 34
    ∧ requestedUs PW PS * F < 2 ^ 66
    ∧ (0 < F → 1000000 ≤ requestedUs PW PS → 1000000 ≤ requestedUs PW PS * F)
    ∧ S * 256 < 2 ^ 40 ∧ Q * F < 2 ^ 56
    ∧ (0 < Q → 0 < F → periodRaw S Q F < 2 ^ 40)
    ∧ Q * 1000000 < 2 ^ 44 ∧ F * Q * 1000000 < 2 ^ 76
    ∧ (0 < F → requestedUs PW PS * F < 1000000 →
        PW * S * 256 < 2 ^ 59 ∧ PS * S * 256 < 2 ^ 60 ∧ (1000000 - requestedUs PW PS * F) * S * 256 < 2 ^ 60)
    ∧ (∀ d c, calcDelay d S Q F PW PS = .ok c →
        durationRaw S Q PW ≤ 2 ^ 32 - 1 ∧ durationRaw S Q PS ≤ 2 ^ 32 - 1 ∧ idleRaw d S Q F PW PS ≤ 2 ^ 32 - 1)

/-- What R138 derives (the spec's own inference): the two idle-tail domains give the same A, B and C, and raw idle tails with CYC ahead by 0 to 3, by the floor of
pf - 2 af - bf of the fractions; the stored D differs by at most 3, and not at all when both raw values are at most 4. -/
def Obligations.IdleDomainsDifferByAtMostThree : Prop :=
  (∀ (S Q F PW PS : ℕ) (c c' : Counts),
    calcDelay .cyc S Q F PW PS = .ok c → calcDelay .us S Q F PW PS = .ok c' →
    idleRawUs S Q F PW PS ≤ idleRawCyc S Q F PW PS ∧ idleRawCyc S Q F PW PS ≤ idleRawUs S Q F PW PS + 3
    ∧ (idleRawUs S Q F PW PS : ℤ) = idleRawCyc S Q F PW PS
        + ⌊Int.fract ((S : ℚ) * 256 / (Q * F)) - 2 * Int.fract ((PW : ℚ) * S * 256 / (Q * 1000000))
            - Int.fract ((PS : ℚ) * S * 256 / (Q * 1000000))⌋
    ∧ c.a = c'.a ∧ c.b = c'.b ∧ c.c = c'.c
    ∧ c'.d ≤ c.d ∧ c.d ≤ c'.d + 3
    ∧ (idleRawCyc S Q F PW PS ≤ 4 → idleRawUs S Q F PW PS ≤ 4 → c.d = c'.d))
  ∧ (∀ S Q F PW PS : ℕ, (∃ c, calcDelay .cyc S Q F PW PS = .ok c) ↔ (∃ c, calcDelay .us S Q F PW PS = .ok c))
  ∧ idleRawCyc 48000000 3200 1000 5 3 = 3791 ∧ idleRawUs 48000000 3200 1000 5 3 = 3790

/-! ## The engine, errors and the clock cycle -/

/-- A step runs the decoded request: a cycle without `rst` that presents a request performs its operation on the state with
the cycle taken off the schedule, and then ENG.COMPLETE if it falls on this edge; a table word placed for the next step is
run by it, and nothing else. These are the model's choices and inferences, not the spec's words: that a step is a cycle of a
schedule (log entry 1), that BUSY as it stands at the start of the cycle enables the completion (log entry 3), that bit 39 of
a table word is dropped (log entry 6), and that the engine does not complete in the cycle of a word placed so, even while
BUSY (log entry 14). -/
def Obligations.StepRunsDecodedRequest : Prop :=
  (∀ (s t : State) (c : CycleInput) (rest : List CycleInput) (r : Request),
    s.schedule = c :: rest → c.rst = false → c.req = some r →
    exec (decode r.toWord) { s with schedule := rest } = .next t →
    step s = .next (if c.complete = true ∧ s.busy = true then engComplete .cyc t else t))
  ∧ (∀ (s : State) (nbits w : Nat), step (s.withFetchWord nbits w) = exec (decode (tableWord nbits w)) s)

/-- No state is stuck: every cycle, with either idle-tail domain, answers a next state, and so does every operation. -/
def Obligations.EveryStepAnswersNext : Prop :=
  (∀ (d : Config.IdleDomain) (s : State), ∃ t, stepWith d s = .next t)
  ∧ (∀ (d : Config.IdleDomain) (c : CycleInput) (s : State), ∃ t, clockCycle d c s = .next t)
  ∧ (∀ (i : Instr) (s : State), ∃ t, exec i s = .next t)

/-- ENG.COMPLETE, in a cycle of its own: while BUSY it clears BUSY, sets DONE and records the result of CALC of the
registers, the four counts exactly and VALID, or ERR and the cause's code; it writes neither IGN nor a parameter. While not
BUSY it is not enabled. That a cycle of the schedule, or the schedule's end, brings it is the model's (log entries 2 and
3). -/
def Obligations.EngineStepRecordsTheResult : Prop :=
  ∀ (s : State), s.nextCycle = ⟨false, none, true⟩ →
    (s.busy = false → step s = .next { s with rsp := ⟨false, 0#32⟩, schedule := s.schedule.tail })
    ∧ (s.busy = true →
      (∀ c, s.calcNow .cyc = .ok c → ∃ a b d : Word, a.toNat = c.a ∧ b.toNat = c.b ∧ a.toNat = c.c ∧ d.toNat = c.d
        ∧ step s = .next { s with countA := a, countB := b, countC := a, countD := d, valid := true, busy := false,
                                  done := true, rsp := ⟨false, 0#32⟩, schedule := s.schedule.tail })
      ∧ (∀ e, s.calcNow .cyc = .error e → ∃ n : BitVec 4,
          n = (match e with | .div0 => 1#4 | .freq0 => 2#4 | .timing => 3#4 | .range => 4#4)
          ∧ step s = .next { s with err := true, errcode := n, busy := false, done := true, rsp := ⟨false, 0#32⟩,
                                    schedule := s.schedule.tail }))

/-- R150: a configuration error is raised only by ENG.COMPLETE, when CALC returns `Err(code)`; it leaves the error
state, BUSY = 0, DONE = 1, VALID = 0, ERR = 1, the code of its cause, counts 0, `cfg_err` and `done` 1, `cnt_valid` 0, the
parameters in their registers and unlocked. -/
def Obligations.ConfigErrorEntersErrorState : Prop :=
  ∀ s t : State, StateInv s → step s = .next t →
    (s.err = false → t.err = true →
      s.completes = true ∧ ∃ e, s.calcNow .cyc = .error e ∧ t.errcode = e.code)
    ∧ (s.completes = true → ∀ e, s.calcNow .cyc = .error e →
      t.busy = false ∧ t.done = true ∧ t.valid = false ∧ t.err = true
      ∧ t.errcode = (match e with | .div0 => 1#4 | .freq0 => 2#4 | .timing => 3#4 | .range => 4#4)
      ∧ (match e with
          | .div0 => s.clkdiv.extractLsb' 0 24 = 0#24
          | .freq0 => s.freqHz = 0#32
          | .timing => 1000000 ≤ (2 * s.pwUs.toNat + s.psUs.toNat) * s.freqHz.toNat
          | .range => 4294967295 < s.sysclkHz.toNat * 256 / ((s.clkdiv.extractLsb' 0 24).toNat * s.freqHz.toNat))
      ∧ t.sideband = ⟨0#32, 0#32, 0#32, 0#32, false, true, false, true⟩
      ∧ State.sameParams s t ∧ t.locked = false)
    ∧ (t.errcode ∈ [0#4, 1#4, 2#4, 3#4, 4#4])

/-- R161: the error state is left by an accepted START, which clears DONE, ERR and ERRCODE, an accepted CLEAR, back to idle,
or reset, and by nothing else; errors do not nest: an error state never becomes one with another code in one step. -/
def Obligations.ErrorStateIsLeftOnlySo : Prop :=
  ∀ s t : State, StateInv s → s.err = true → step s = .next t →
    (s.nextCycle.rst = true ∨ s.nextOp = some .cmdStart ∨ s.nextOp = some .cmdClear →
      t.err = false ∧ t.errcode = 0#4 ∧ t.done = false ∧ (t.busy = true ↔ s.nextOp = some .cmdStart))
    ∧ (¬ (s.nextCycle.rst = true ∨ s.nextOp = some .cmdStart ∨ s.nextOp = some .cmdClear) →
      t.err = true ∧ t.errcode = s.errcode ∧ t.done = true ∧ t.busy = false)

/-- R163: a request and ENG.COMPLETE in one cycle: the request is performed first, on the state with BUSY = 1, so that a
read returns the values before completion and a parameter write, START or CLEAR is ignored, and ENG.COMPLETE after it, both
at one edge; `rst` overrides everything: neither is performed, the response is (0, 0), and the state is the reset state. -/
def Obligations.SimultaneousEvents : Prop :=
  (∀ (s : State) (c : CycleInput) (rest : List CycleInput), s.schedule = c :: rest → c.rst = true →
    step s = .next { State.reset with schedule := rest })
  ∧ (∀ (s : State) (c : CycleInput) (rest : List CycleInput) (r : Request), s.schedule = c :: rest → c.rst = false →
    c.req = some r → c.complete = true → s.busy = true →
    ∃ t, exec (decode r.toWord) { s with schedule := rest } = .next t
      ∧ step s = .next (engComplete .cyc t)
      ∧ (engComplete .cyc t).rsp = t.rsp ∧ (engComplete .cyc t).busy = false
      ∧ t.busy = true ∧ State.sameParams s t ∧ State.sameCounts s t ∧ State.sameOutcome s t
      ∧ (r.write = false → t = { s with schedule := rest, rsp := memRead s r.addr })
      ∧ (r.write = true → r.addr ∈ [0x00#6, 0x04#6, 0x08#6, 0x0C#6, 0x10#6] →
          t = { s with schedule := rest, ign := true, rsp := ⟨false, 0#32⟩ })
      ∧ (r.write = true → r.addr = 0x14#6 → r.wdata = 1#32 ∨ r.wdata = 2#32 →
          t = { s with schedule := rest, ign := true, rsp := ⟨false, 0#32⟩ }))

/-- Progress: whatever the host requests, an accepted START is followed by exactly one ENG.COMPLETE, unless a reset
intervenes: within one step more than the schedule holds there is a first step after which the machine is not BUSY, DONE is
set, and that step is the engine's. That the schedule's end brings the completion is the model's choice (log entry 2). -/
def Obligations.BusyAlwaysCompletes : Prop :=
  ∀ s : State, s.busy = true → (∀ c ∈ s.schedule, c.rst = false) →
    ∃ k t u, k ≤ s.schedule.length
      ∧ run k s = .next t ∧ t.busy = true ∧ t.completes = true
      ∧ step t = .next u ∧ u.busy = false ∧ u.done = true
      ∧ ∀ j v, j < k → run j s = .next v → v.busy = true ∧ v.completes = false

/-- The latency does not matter: from a busy state, any requests may be made before the engine completes, with the same
parameters, the same counts and the same outcome in the end as if it had completed at once. -/
def Obligations.CompletionTimeIsIrrelevant : Prop :=
  ∀ (s : State) (cs : List CycleInput), StateInv s → s.busy = true →
    (∀ c ∈ cs, c.rst = false ∧ c.complete = false) →
    ∃ t u, run 1 { s with schedule := [⟨false, none, true⟩] } = .next u
      ∧ run (cs.length + 1) { s with schedule := cs ++ [⟨false, none, true⟩] } = .next t
      ∧ State.sameParams s t ∧ State.sameParams u t ∧ State.sameCounts u t ∧ State.sameOutcome u t

/-- R131: CALC has no hidden input: two busy states with the same parameters complete to the same counts and the same
outcome, whatever came before; so START, completion, CLEAR, START, completion gives twice the same. -/
def Obligations.EqualParametersEqualResults : Prop :=
  (∀ s s' t t' : State, StateInv s → StateInv s' → s.completes = true → s'.completes = true → State.sameParams s s' →
    step s = .next t → step s' = .next t' → State.sameCounts t t' ∧ State.sameOutcome t t')
  ∧ (∀ s : State, StateInv s → s.busy = false → s.valid = false →
    s.schedule = [⟨false, some ⟨true, 0x14#6, 1#32⟩, false⟩, ⟨false, none, true⟩,
      ⟨false, some ⟨true, 0x14#6, 2#32⟩, false⟩, ⟨false, some ⟨true, 0x14#6, 1#32⟩, false⟩, ⟨false, none, true⟩] →
    ∃ t t', run 2 s = .next t ∧ run 5 s = .next t' ∧ State.sameCounts t t' ∧ State.sameOutcome t t')

/-! ## Reset -/

/-- R33: after reset every item of state and every output is zero, and a START right after it, with nothing written,
completes with ERRCODE = 1. -/
def Obligations.ResetValues : Prop :=
  (State.reset.sysclkHz = 0#32 ∧ State.reset.clkdiv = 0#32 ∧ State.reset.freqHz = 0#32 ∧ State.reset.pwUs = 0#32
    ∧ State.reset.psUs = 0#32 ∧ State.reset.countA = 0#32 ∧ State.reset.countB = 0#32 ∧ State.reset.countC = 0#32
    ∧ State.reset.countD = 0#32 ∧ State.reset.busy = false ∧ State.reset.done = false ∧ State.reset.valid = false
    ∧ State.reset.err = false ∧ State.reset.ign = false ∧ State.reset.errcode = 0#4)
  ∧ State.reset.statusWord = 0#32
  ∧ State.reset.sideband = ⟨0#32, 0#32, 0#32, 0#32, false, false, false, false⟩
  ∧ (∃ t, run 2 { State.reset with
        schedule := [⟨false, some ⟨true, 0x14#6, 1#32⟩, false⟩, ⟨false, none, true⟩] } = .next t
      ∧ t.done = true ∧ t.err = true ∧ t.errcode = 1#4)

/-- R170, R172: in a cycle with `rst` the request is not performed, the response is (0, 0), and every item of state takes its
reset value, a calculation in flight abandoned: no completion follows until a START is performed. Nothing starts by itself. -/
def Obligations.ResetOverridesAndAbandons : Prop :=
  (∀ s : State, s.nextCycle.rst = true → step s = .next { State.reset with schedule := s.schedule.tail })
  ∧ (∀ s t : State, s.nextCycle.rst = true → step s = .next t →
      t.rsp = ⟨false, 0#32⟩ ∧ t.sideband = ⟨0#32, 0#32, 0#32, 0#32, false, false, false, false⟩ ∧ t.completes = false)
  ∧ (∀ s t : State, s.busy = false → s.nextOp ≠ some .cmdStart → step s = .next t →
      t.busy = false ∧ t.completes = false)
  ∧ (∀ s t : State, s.busy = false → s.nextCycle.rst = false → s.nextCycle.req = none → step s = .next t →
      t = { s with rsp := ⟨false, 0#32⟩, schedule := s.schedule.tail })

/-! ## The lock, the flags and the invariants -/

/-- R171: reset is the only operation that changes a parameter register other than a write by the host, the only one besides
CMD.CLEAR that clears VALID, IGN and the counts, and the only one that ends BUSY without a completion. -/
def Obligations.OnlyResetDoesWhatResetDoes : Prop :=
  ∀ s t : State, StateInv s → step s = .next t → s.nextCycle.rst = false →
    (t.sysclkHz ≠ s.sysclkHz → ∃ v, s.nextOp = some (.wrSysclkHz v) ∧ t.sysclkHz = v)
    ∧ (t.clkdiv ≠ s.clkdiv → ∃ q, s.nextOp = some (.wrClkdiv q) ∧ t.clkdiv = 0#8 ++ q)
    ∧ (t.freqHz ≠ s.freqHz → ∃ v, s.nextOp = some (.wrFreqHz v) ∧ t.freqHz = v)
    ∧ (t.pwUs ≠ s.pwUs → ∃ v, s.nextOp = some (.wrPwUs v) ∧ t.pwUs = v)
    ∧ (t.psUs ≠ s.psUs → ∃ v, s.nextOp = some (.wrPsUs v) ∧ t.psUs = v)
    ∧ (s.valid = true → t.valid = false → s.nextOp = some .cmdClear)
    ∧ (s.ign = true → t.ign = false → s.nextOp = some .cmdClear)
    ∧ ((s.countA ≠ 0#32 ∧ t.countA = 0#32) ∨ (s.countB ≠ 0#32 ∧ t.countB = 0#32) ∨ (s.countC ≠ 0#32 ∧ t.countC = 0#32)
        ∨ (s.countD ≠ 0#32 ∧ t.countD = 0#32) → s.nextOp = some .cmdClear)
    ∧ (s.busy = true → t.busy = false → s.completes = true)

/-- R31: while BUSY or VALID, a parameter write and a START are ignored, and while BUSY a CLEAR is; the lock is released only
by a completion that ends in an error, by an accepted CLEAR and by reset. -/
def Obligations.LockIsReleasedOnlySo : Prop :=
  (∀ s : State, s.locked = true ↔ (s.busy = true ∨ s.valid = true))
  ∧ (∀ (s : State) (i : Instr), s.locked = true →
    (i.mnemonic ∈ ["WR.SYSCLK_HZ", "WR.CLKDIV", "WR.FREQ_HZ", "WR.PW_US", "WR.PS_US", "CMD.START"]
      ∨ (i = .cmdClear ∧ s.busy = true)) →
    exec i s = .next { s with ign := true, rsp := ⟨false, 0#32⟩ })
  ∧ (∀ s t : State, s.locked = true → step s = .next t → t.locked = false →
    s.nextCycle.rst = true
    ∨ (s.busy = true ∧ s.completes = true ∧ ∃ e, s.calcNow .cyc = .error e)
    ∨ (s.busy = false ∧ s.nextOp = some .cmdClear))
  ∧ (∀ s t : State, s.valid = true → s.busy = false → step s = .next t → t.valid = true →
    State.sameParams s t ∧ State.sameCounts s t)

/-- R22: BUSY goes to 1 exactly on an accepted START and to 0 exactly on ENG.COMPLETE or reset; while it is 1 every
parameter write and every START, CLEAR and reserved command is ignored. -/
def Obligations.BusyTransitions : Prop :=
  (∀ s t : State, step s = .next t →
    (s.busy = false → (t.busy = true ↔ (s.nextOp = some .cmdStart ∧ s.valid = false)))
    ∧ (s.busy = true → (t.busy = false ↔ (s.nextCycle.rst = true ∨ s.completes = true))))
  ∧ (∀ (s : State) (i : Instr), s.busy = true →
    i.mnemonic ∈ ["WR.SYSCLK_HZ", "WR.CLKDIV", "WR.FREQ_HZ", "WR.PW_US", "WR.PS_US", "CMD.START", "CMD.CLEAR", "CMD.RSVD"] →
    exec i s = .next { s with ign := true, rsp := ⟨false, 0#32⟩ })

/-- R23: DONE is set by ENG.COMPLETE and cleared by an accepted START, an accepted CLEAR and reset, by nothing else, and
DONE = VALID or ERR always holds. -/
def Obligations.DoneTransitions : Prop :=
  (∀ s t : State, step s = .next t →
    t.done = (!s.nextCycle.rst && (s.completes || (s.done && !(decide (s.nextOp = some .cmdStart) && !s.locked)
      && !(decide (s.nextOp = some .cmdClear) && !s.busy)))))
  ∧ (∀ s t : State, StateInv s → step s = .next t → t.done = (t.valid || t.err))

/-- R26: IGN is set by every ignored request, cleared only by an accepted CLEAR and reset, sticky otherwise; and it never
affects any other state: two machines that differ in IGN alone step to states that differ in IGN alone, but for what a read
of STATUS returns. -/
def Obligations.IgnIsStickyAndAffectsNothing : Prop :=
  (∀ s t : State, step s = .next t → s.nextCycle.rst = false →
    (t.ign = true ↔
      ((∃ i, s.nextOp = some i ∧
          ((i.mnemonic ∈ ["WR.SYSCLK_HZ", "WR.CLKDIV", "WR.FREQ_HZ", "WR.PW_US", "WR.PS_US", "CMD.START"] ∧ s.locked = true)
            ∨ (i = .cmdClear ∧ s.busy = true) ∨ i.mnemonic = "CMD.RSVD"))
        ∨ (s.ign = true ∧ ¬ (s.nextOp = some .cmdClear ∧ s.busy = false)))))
  ∧ (∀ s t : State, step s = .next t → s.nextCycle.rst = true → t.ign = false)
  ∧ (∀ (s : State) (b : Bool), ∃ t u, step s = .next t ∧ step { s with ign := b } = .next u
    ∧ u = { t with ign := u.ign, rsp := u.rsp }
    ∧ (s.nextOp ≠ some .rdStatus → u.rsp = t.rsp))

/-- The counts come from the engine: a count changes only when ENG.COMPLETE ends in a result, on an accepted CLEAR or on
reset; after ENG.COMPLETE with a result each is the raw count less 4, floored at zero, COUNT_C being COUNT_A. -/
def Obligations.CountsComeFromTheEngine : Prop :=
  ∀ s t : State, StateInv s → step s = .next t →
    (¬ State.sameCounts s t → s.nextCycle.rst = true ∨ s.nextOp = some .cmdClear
      ∨ (s.completes = true ∧ ∃ c, s.calcNow .cyc = .ok c))
    ∧ (s.completes = true → ∀ c, s.calcNow .cyc = .ok c →
        t.valid = true ∧ t.err = false ∧ t.done = true ∧ t.busy = false
        ∧ t.countA.toNat = durationRaw s.sysclkHz.toNat s.divider.toNat s.pwUs.toNat - 4
        ∧ t.countB.toNat = durationRaw s.sysclkHz.toNat s.divider.toNat s.psUs.toNat - 4
        ∧ t.countC = t.countA
        ∧ t.countD.toNat = periodRaw s.sysclkHz.toNat s.divider.toNat s.freqHz.toNat
            - (2 * durationRaw s.sysclkHz.toNat s.divider.toNat s.pwUs.toNat
                + durationRaw s.sysclkHz.toNat s.divider.toNat s.psUs.toNat) - 4)

/-- R51: a consumer that sees `cnt_valid = 1` at every step of a stretch sees the same counts, and the machine the same
parameters, at each of them; and a CLEAR takes `cnt_valid` and the counts to 0 at one edge. -/
def Obligations.ConsumerSeesStableCounts : Prop :=
  (∀ (n : Nat) (s t : State), StateInv s →
    (∀ j u, j ≤ n → run j s = .next u → u.sideband.cntValid = true) → run n s = .next t →
    State.sameCounts s t ∧ State.sameParams s t
    ∧ t.sideband.cntA = s.sideband.cntA ∧ t.sideband.cntB = s.sideband.cntB ∧ t.sideband.cntC = s.sideband.cntC
    ∧ t.sideband.cntD = s.sideband.cntD)
  ∧ (∀ s t : State, s.busy = false → s.nextOp = some .cmdClear → step s = .next t →
    t.sideband = ⟨0#32, 0#32, 0#32, 0#32, false, false, false, false⟩)

/-- Every step keeps the invariants of R30, which the spec derives (its own inference), from every state that has them and whatever the cycle brings. -/
def Obligations.StepKeepsInvariants : Prop :=
  ∀ s t : State, StateInv s → step s = .next t → StateInv t

/-- The invariants of R30, which the spec derives (its own inference), hold at reset. -/
def Obligations.ResetHasInvariants : Prop :=
  StateInv State.reset

/-- Where the invariants of R30 hold (the spec's own inference), STATUS without IGN reads one of seven values, and its bits 7:5 and 31:12 read 0 in
every state. -/
def Obligations.StatusTakesSevenValues : Prop :=
  (∀ s : State, s.statusWord.extractLsb' 5 3 = 0#3 ∧ s.statusWord.extractLsb' 12 20 = 0#20)
  ∧ (∀ s : State, StateInv s → s.statusWord &&& ~~~ 0x010#32 ∈
      [0x000#32, 0x001#32, 0x006#32, 0x10A#32, 0x20A#32, 0x30A#32, 0x40A#32])

/-! ## The end of a run -/

/-- A run ends, as R182 says, in the first state with BUSY = 0 and no request left to issue, at most one step after the
schedule's end, and what is observed of it holds one response for each request, in a busy or an idle start state alike. That
the schedule's end brings a completion that is due is the model's choice (log entry 2). -/
def Obligations.RunEndsWithAResponsePerRequest : Prop :=
  ∀ s : State, ∃ k t, k ≤ s.schedule.length + 1 ∧ run k s = .next t
    ∧ t.busy = false ∧ (∀ c ∈ t.schedule, c.req = none)
    ∧ (∀ j v, j < k → run j s = .next v → v.busy = true ∨ ∃ c ∈ v.schedule, c.req ≠ none)
    ∧ s.runProgram = some (t.observe (responses k s))
    ∧ (responses k s).length = s.schedule.countP fun c => c.req.isSome
end

