-- ==== Sys2Proof/Laws/Calc.lean ====
section
/-! SUPPORT. CALC: the overhead as a truncated subtraction, and when each result is returned. -/

namespace Sys2Proof.Machine

/-- `sat_sub` is the natural numbers' own subtraction (R128). -/
@[simp] theorem satSub_eq (x k : Nat) : satSub x k = x - k := by
  unfold satSub
  split <;> omega

/-- When CALC returns counts, and which (R121). -/
theorem calcDelay_eq_ok_iff (d : Config.IdleDomain) (S Q F PW PS : Nat) (c : Counts) :
    calcDelay d S Q F PW PS = .ok c ↔
      Q ≠ 0 ∧ F ≠ 0 ∧ (2 * PW + PS) * F < 1000000 ∧ periodRaw S Q F ≤ 4294967295
        ∧ c = storedCounts d S Q F PW PS := by
  unfold calcDelay requestedUs Config.usPerS Config.cntMax
  split_ifs <;> simp_all [eq_comm]

/-- When CALC returns an error, and which (R121, R155). -/
theorem calcDelay_eq_error_iff (d : Config.IdleDomain) (S Q F PW PS : Nat) (e : ConfigError) :
    calcDelay d S Q F PW PS = .error e ↔
      match e with
      | .div0 => Q = 0
      | .freq0 => Q ≠ 0 ∧ F = 0
      | .timing => Q ≠ 0 ∧ F ≠ 0 ∧ 1000000 ≤ (2 * PW + PS) * F
      | .range => Q ≠ 0 ∧ F ≠ 0 ∧ (2 * PW + PS) * F < 1000000 ∧ 4294967295 < periodRaw S Q F := by
  unfold calcDelay requestedUs Config.usPerS Config.cntMax
  cases e <;> split_ifs <;> simp_all

end Sys2Proof.Machine
end

