-- ==== Sys2Proof/Laws/Decode.lean ====
section
/-! SUPPORT. The fields of a request word and the register map: one spec lemma each. -/

namespace Sys2Proof

/-- The bits of a request word: DATA below bit 32, ADDR below bit 38, W at bit 38 (R60). -/
theorem getLsbD_mkReq (b : Bool) (a : Addr) (v : Word) (i : Nat) :
    (mkReq b a v).getLsbD i =
      if i < 32 then v.getLsbD i else if i - 32 < 6 then a.getLsbD (i - 32) else (BitVec.ofBool b).getLsbD (i - 32 - 6) := by
  change BitVec.getLsbD (w := 1 + 6 + 32) (BitVec.ofBool b ++ a ++ v) i = _
  rw [BitVec.getLsbD_append, BitVec.getLsbD_append]

@[simp] theorem reqWrite_mkReq (b : Bool) (a : Addr) (v : Word) : reqWrite (mkReq b a v) = b := by
  rw [reqWrite, getLsbD_mkReq]
  cases b <;> simp

@[simp] theorem reqAddr_mkReq (b : Bool) (a : Addr) (v : Word) : reqAddr (mkReq b a v) = a := by
  apply BitVec.eq_of_getLsbD_eq
  intro i hi
  rw [reqAddr, BitVec.getLsbD_extractLsb', getLsbD_mkReq]
  simp [hi]

@[simp] theorem reqData_mkReq (b : Bool) (a : Addr) (v : Word) : reqData (mkReq b a v) = v := by
  apply BitVec.eq_of_getLsbD_eq
  intro i hi
  rw [reqData, BitVec.getLsbD_extractLsb', getLsbD_mkReq]
  simp [hi]

/-- A request word is made of its fields (R60). -/
theorem mkReq_fields (w : ReqWord) : mkReq (reqWrite w) (reqAddr w) (reqData w) = w := by
  apply BitVec.eq_of_getLsbD_eq
  intro i hi
  rw [getLsbD_mkReq]
  split_ifs with h h'
  · simp [reqData, h]
  · have e : 32 + (i - 32) = i := by omega
    simp [reqAddr, h', e]
  · have e : i = 38 := by omega
    subst e
    simp [reqWrite]

/-- The decode of a word given by its fields (R64). -/
theorem decode_mkReq (b : Bool) (a : Addr) (v : Word) :
    decode (mkReq b a v) = if b then decodeWrite a v else decodeRead a := by
  simp [decode]

@[simp] theorem ofAddr_offset (r : Reg) : Reg.ofAddr r.offset = some r := by
  cases r <;> decide

/-- An offset names no register exactly when it is one of BUSERR's (R64 row 26, R103). -/
theorem ofAddr_eq_none_iff (a : Addr) : Reg.ofAddr a = none ↔ isBusErrAddr a = true := by
  revert a
  decide

/-- An offset that names a register is that register's (R41: no register is aliased). -/
theorem eq_offset_of_ofAddr {a : Addr} {r : Reg} (h : Reg.ofAddr a = some r) : a = r.offset := by
  revert a r
  decide +revert

end Sys2Proof
end

