-- ==== Sys2Proof/Laws/Flags.lean ====
section
/-! SUPPORT. The divider field and the bits of STATUS: one spec lemma each. -/

namespace Sys2Proof.Machine

/-- The word of a divider is the divider below a zero byte (R12, R94). -/
theorem dividerWord_eq_append (q : Divider) : dividerWord q = 0#8 ++ q := by
  apply BitVec.eq_of_getLsbD_eq
  intro i hi
  change _ = BitVec.getLsbD (w := 8 + 24) (0#8 ++ q) i
  rw [BitVec.getLsbD_append]
  by_cases h : i < 24
  · simp [dividerWord, hi, h]
  · simp [dividerWord, h, BitVec.getLsbD_of_ge q i (by omega)]

/-- What is stored of a divider is read back (R82, R94). -/
@[simp] theorem dividerField_dividerWord (q : Divider) : dividerField (dividerWord q) = q := by
  simp [dividerField, dividerWord]

/-- `DATA[23:0]` as a part of the word (R63 a). -/
theorem dividerField_eq_extract (v : Word) : dividerField v = v.extractLsb' 0 24 := by
  apply BitVec.eq_of_getLsbD_eq
  intro i hi
  simp [dividerField]

/-- The bits of STATUS (R21). -/
theorem getLsbD_statusWord (s : State) (i : Nat) :
    s.statusWord.getLsbD i =
      if i = 0 then s.busy else if i = 1 then s.done else if i = 2 then s.valid else if i = 3 then s.err
      else if i = 4 then s.ign else if 8 ≤ i then s.errcode.getLsbD (i - 8) else false := by
  change BitVec.getLsbD (w := 20 + 4 + 3 + 1 + 1 + 1 + 1 + 1)
    (0#20 ++ s.errcode ++ 0#3 ++ BitVec.ofBool s.ign ++ BitVec.ofBool s.err ++ BitVec.ofBool s.valid
      ++ BitVec.ofBool s.done ++ BitVec.ofBool s.busy) i = _
  simp only [BitVec.getLsbD_append, BitVec.getLsbD_zero]
  by_cases h : i < 12
  · interval_cases i <;> simp
  · have e : s.errcode.getLsbD (i - 8) = false := BitVec.getLsbD_of_ge _ _ (by omega)
    split_ifs <;> first | omega | simp_all

end Sys2Proof.Machine
end

