-- ==== Sys2Proof/Laws/State.lean ====
section
/-! SUPPORT. One lemma per field and update of the state, so that no proof unfolds a record update. -/

namespace Sys2Proof.Machine

/-! ## State.respond -/

@[simp] theorem respond_sysclkHz (s : State) (e : Bool) (v : Word) : (s.respond e v).sysclkHz = s.sysclkHz := rfl
@[simp] theorem respond_clkdiv (s : State) (e : Bool) (v : Word) : (s.respond e v).clkdiv = s.clkdiv := rfl
@[simp] theorem respond_freqHz (s : State) (e : Bool) (v : Word) : (s.respond e v).freqHz = s.freqHz := rfl
@[simp] theorem respond_pwUs (s : State) (e : Bool) (v : Word) : (s.respond e v).pwUs = s.pwUs := rfl
@[simp] theorem respond_psUs (s : State) (e : Bool) (v : Word) : (s.respond e v).psUs = s.psUs := rfl
@[simp] theorem respond_countA (s : State) (e : Bool) (v : Word) : (s.respond e v).countA = s.countA := rfl
@[simp] theorem respond_countB (s : State) (e : Bool) (v : Word) : (s.respond e v).countB = s.countB := rfl
@[simp] theorem respond_countC (s : State) (e : Bool) (v : Word) : (s.respond e v).countC = s.countC := rfl
@[simp] theorem respond_countD (s : State) (e : Bool) (v : Word) : (s.respond e v).countD = s.countD := rfl
@[simp] theorem respond_busy (s : State) (e : Bool) (v : Word) : (s.respond e v).busy = s.busy := rfl
@[simp] theorem respond_done (s : State) (e : Bool) (v : Word) : (s.respond e v).done = s.done := rfl
@[simp] theorem respond_valid (s : State) (e : Bool) (v : Word) : (s.respond e v).valid = s.valid := rfl
@[simp] theorem respond_err (s : State) (e : Bool) (v : Word) : (s.respond e v).err = s.err := rfl
@[simp] theorem respond_ign (s : State) (e : Bool) (v : Word) : (s.respond e v).ign = s.ign := rfl
@[simp] theorem respond_errcode (s : State) (e : Bool) (v : Word) : (s.respond e v).errcode = s.errcode := rfl
@[simp] theorem respond_rsp (s : State) (e : Bool) (v : Word) : (s.respond e v).rsp = ⟨e, v⟩ := rfl
@[simp] theorem respond_schedule (s : State) (e : Bool) (v : Word) : (s.respond e v).schedule = s.schedule := rfl

/-! ## State.respondDone -/

@[simp] theorem respondDone_sysclkHz (s : State) : s.respondDone.sysclkHz = s.sysclkHz := rfl
@[simp] theorem respondDone_clkdiv (s : State) : s.respondDone.clkdiv = s.clkdiv := rfl
@[simp] theorem respondDone_freqHz (s : State) : s.respondDone.freqHz = s.freqHz := rfl
@[simp] theorem respondDone_pwUs (s : State) : s.respondDone.pwUs = s.pwUs := rfl
@[simp] theorem respondDone_psUs (s : State) : s.respondDone.psUs = s.psUs := rfl
@[simp] theorem respondDone_countA (s : State) : s.respondDone.countA = s.countA := rfl
@[simp] theorem respondDone_countB (s : State) : s.respondDone.countB = s.countB := rfl
@[simp] theorem respondDone_countC (s : State) : s.respondDone.countC = s.countC := rfl
@[simp] theorem respondDone_countD (s : State) : s.respondDone.countD = s.countD := rfl
@[simp] theorem respondDone_busy (s : State) : s.respondDone.busy = s.busy := rfl
@[simp] theorem respondDone_done (s : State) : s.respondDone.done = s.done := rfl
@[simp] theorem respondDone_valid (s : State) : s.respondDone.valid = s.valid := rfl
@[simp] theorem respondDone_err (s : State) : s.respondDone.err = s.err := rfl
@[simp] theorem respondDone_ign (s : State) : s.respondDone.ign = s.ign := rfl
@[simp] theorem respondDone_errcode (s : State) : s.respondDone.errcode = s.errcode := rfl
@[simp] theorem respondDone_rsp (s : State) : s.respondDone.rsp = ⟨false, 0#32⟩ := rfl
@[simp] theorem respondDone_schedule (s : State) : s.respondDone.schedule = s.schedule := rfl

/-! ## State.ignore -/

@[simp] theorem ignore_sysclkHz (s : State) : s.ignore.sysclkHz = s.sysclkHz := rfl
@[simp] theorem ignore_clkdiv (s : State) : s.ignore.clkdiv = s.clkdiv := rfl
@[simp] theorem ignore_freqHz (s : State) : s.ignore.freqHz = s.freqHz := rfl
@[simp] theorem ignore_pwUs (s : State) : s.ignore.pwUs = s.pwUs := rfl
@[simp] theorem ignore_psUs (s : State) : s.ignore.psUs = s.psUs := rfl
@[simp] theorem ignore_countA (s : State) : s.ignore.countA = s.countA := rfl
@[simp] theorem ignore_countB (s : State) : s.ignore.countB = s.countB := rfl
@[simp] theorem ignore_countC (s : State) : s.ignore.countC = s.countC := rfl
@[simp] theorem ignore_countD (s : State) : s.ignore.countD = s.countD := rfl
@[simp] theorem ignore_busy (s : State) : s.ignore.busy = s.busy := rfl
@[simp] theorem ignore_done (s : State) : s.ignore.done = s.done := rfl
@[simp] theorem ignore_valid (s : State) : s.ignore.valid = s.valid := rfl
@[simp] theorem ignore_err (s : State) : s.ignore.err = s.err := rfl
@[simp] theorem ignore_ign (s : State) : s.ignore.ign = true := rfl
@[simp] theorem ignore_errcode (s : State) : s.ignore.errcode = s.errcode := rfl
@[simp] theorem ignore_rsp (s : State) : s.ignore.rsp = s.rsp := rfl
@[simp] theorem ignore_schedule (s : State) : s.ignore.schedule = s.schedule := rfl

/-! ## State.startFlags -/

@[simp] theorem startFlags_sysclkHz (s : State) : s.startFlags.sysclkHz = s.sysclkHz := rfl
@[simp] theorem startFlags_clkdiv (s : State) : s.startFlags.clkdiv = s.clkdiv := rfl
@[simp] theorem startFlags_freqHz (s : State) : s.startFlags.freqHz = s.freqHz := rfl
@[simp] theorem startFlags_pwUs (s : State) : s.startFlags.pwUs = s.pwUs := rfl
@[simp] theorem startFlags_psUs (s : State) : s.startFlags.psUs = s.psUs := rfl
@[simp] theorem startFlags_countA (s : State) : s.startFlags.countA = s.countA := rfl
@[simp] theorem startFlags_countB (s : State) : s.startFlags.countB = s.countB := rfl
@[simp] theorem startFlags_countC (s : State) : s.startFlags.countC = s.countC := rfl
@[simp] theorem startFlags_countD (s : State) : s.startFlags.countD = s.countD := rfl
@[simp] theorem startFlags_busy (s : State) : s.startFlags.busy = true := rfl
@[simp] theorem startFlags_done (s : State) : s.startFlags.done = false := rfl
@[simp] theorem startFlags_valid (s : State) : s.startFlags.valid = s.valid := rfl
@[simp] theorem startFlags_err (s : State) : s.startFlags.err = false := rfl
@[simp] theorem startFlags_ign (s : State) : s.startFlags.ign = s.ign := rfl
@[simp] theorem startFlags_errcode (s : State) : s.startFlags.errcode = 0#4 := rfl
@[simp] theorem startFlags_rsp (s : State) : s.startFlags.rsp = s.rsp := rfl
@[simp] theorem startFlags_schedule (s : State) : s.startFlags.schedule = s.schedule := rfl

/-! ## State.clearFlags -/

@[simp] theorem clearFlags_sysclkHz (s : State) : s.clearFlags.sysclkHz = s.sysclkHz := rfl
@[simp] theorem clearFlags_clkdiv (s : State) : s.clearFlags.clkdiv = s.clkdiv := rfl
@[simp] theorem clearFlags_freqHz (s : State) : s.clearFlags.freqHz = s.freqHz := rfl
@[simp] theorem clearFlags_pwUs (s : State) : s.clearFlags.pwUs = s.pwUs := rfl
@[simp] theorem clearFlags_psUs (s : State) : s.clearFlags.psUs = s.psUs := rfl
@[simp] theorem clearFlags_countA (s : State) : s.clearFlags.countA = s.countA := rfl
@[simp] theorem clearFlags_countB (s : State) : s.clearFlags.countB = s.countB := rfl
@[simp] theorem clearFlags_countC (s : State) : s.clearFlags.countC = s.countC := rfl
@[simp] theorem clearFlags_countD (s : State) : s.clearFlags.countD = s.countD := rfl
@[simp] theorem clearFlags_busy (s : State) : s.clearFlags.busy = s.busy := rfl
@[simp] theorem clearFlags_done (s : State) : s.clearFlags.done = false := rfl
@[simp] theorem clearFlags_valid (s : State) : s.clearFlags.valid = false := rfl
@[simp] theorem clearFlags_err (s : State) : s.clearFlags.err = false := rfl
@[simp] theorem clearFlags_ign (s : State) : s.clearFlags.ign = false := rfl
@[simp] theorem clearFlags_errcode (s : State) : s.clearFlags.errcode = 0#4 := rfl
@[simp] theorem clearFlags_rsp (s : State) : s.clearFlags.rsp = s.rsp := rfl
@[simp] theorem clearFlags_schedule (s : State) : s.clearFlags.schedule = s.schedule := rfl

/-! ## setCounts -/

@[simp] theorem setCounts_sysclkHz (s : State) (a b c d : Word) : (setCounts s a b c d).sysclkHz = s.sysclkHz := rfl
@[simp] theorem setCounts_clkdiv (s : State) (a b c d : Word) : (setCounts s a b c d).clkdiv = s.clkdiv := rfl
@[simp] theorem setCounts_freqHz (s : State) (a b c d : Word) : (setCounts s a b c d).freqHz = s.freqHz := rfl
@[simp] theorem setCounts_pwUs (s : State) (a b c d : Word) : (setCounts s a b c d).pwUs = s.pwUs := rfl
@[simp] theorem setCounts_psUs (s : State) (a b c d : Word) : (setCounts s a b c d).psUs = s.psUs := rfl
@[simp] theorem setCounts_countA (s : State) (a b c d : Word) : (setCounts s a b c d).countA = a := rfl
@[simp] theorem setCounts_countB (s : State) (a b c d : Word) : (setCounts s a b c d).countB = b := rfl
@[simp] theorem setCounts_countC (s : State) (a b c d : Word) : (setCounts s a b c d).countC = c := rfl
@[simp] theorem setCounts_countD (s : State) (a b c d : Word) : (setCounts s a b c d).countD = d := rfl
@[simp] theorem setCounts_busy (s : State) (a b c d : Word) : (setCounts s a b c d).busy = s.busy := rfl
@[simp] theorem setCounts_done (s : State) (a b c d : Word) : (setCounts s a b c d).done = s.done := rfl
@[simp] theorem setCounts_valid (s : State) (a b c d : Word) : (setCounts s a b c d).valid = s.valid := rfl
@[simp] theorem setCounts_err (s : State) (a b c d : Word) : (setCounts s a b c d).err = s.err := rfl
@[simp] theorem setCounts_ign (s : State) (a b c d : Word) : (setCounts s a b c d).ign = s.ign := rfl
@[simp] theorem setCounts_errcode (s : State) (a b c d : Word) : (setCounts s a b c d).errcode = s.errcode := rfl
@[simp] theorem setCounts_rsp (s : State) (a b c d : Word) : (setCounts s a b c d).rsp = s.rsp := rfl
@[simp] theorem setCounts_schedule (s : State) (a b c d : Word) : (setCounts s a b c d).schedule = s.schedule := rfl

/-! ## raiseConfigError -/

@[simp] theorem raiseConfigError_sysclkHz (s : State) (e : ConfigError) : (raiseConfigError s e).sysclkHz = s.sysclkHz := rfl
@[simp] theorem raiseConfigError_clkdiv (s : State) (e : ConfigError) : (raiseConfigError s e).clkdiv = s.clkdiv := rfl
@[simp] theorem raiseConfigError_freqHz (s : State) (e : ConfigError) : (raiseConfigError s e).freqHz = s.freqHz := rfl
@[simp] theorem raiseConfigError_pwUs (s : State) (e : ConfigError) : (raiseConfigError s e).pwUs = s.pwUs := rfl
@[simp] theorem raiseConfigError_psUs (s : State) (e : ConfigError) : (raiseConfigError s e).psUs = s.psUs := rfl
@[simp] theorem raiseConfigError_countA (s : State) (e : ConfigError) : (raiseConfigError s e).countA = s.countA := rfl
@[simp] theorem raiseConfigError_countB (s : State) (e : ConfigError) : (raiseConfigError s e).countB = s.countB := rfl
@[simp] theorem raiseConfigError_countC (s : State) (e : ConfigError) : (raiseConfigError s e).countC = s.countC := rfl
@[simp] theorem raiseConfigError_countD (s : State) (e : ConfigError) : (raiseConfigError s e).countD = s.countD := rfl
@[simp] theorem raiseConfigError_busy (s : State) (e : ConfigError) : (raiseConfigError s e).busy = s.busy := rfl
@[simp] theorem raiseConfigError_done (s : State) (e : ConfigError) : (raiseConfigError s e).done = s.done := rfl
@[simp] theorem raiseConfigError_valid (s : State) (e : ConfigError) : (raiseConfigError s e).valid = s.valid := rfl
@[simp] theorem raiseConfigError_err (s : State) (e : ConfigError) : (raiseConfigError s e).err = true := rfl
@[simp] theorem raiseConfigError_ign (s : State) (e : ConfigError) : (raiseConfigError s e).ign = s.ign := rfl
@[simp] theorem raiseConfigError_errcode (s : State) (e : ConfigError) : (raiseConfigError s e).errcode = e.code := rfl
@[simp] theorem raiseConfigError_rsp (s : State) (e : ConfigError) : (raiseConfigError s e).rsp = s.rsp := rfl
@[simp] theorem raiseConfigError_schedule (s : State) (e : ConfigError) : (raiseConfigError s e).schedule = s.schedule := rfl

/-! ## State.advance -/

@[simp] theorem advance_sysclkHz (s : State) : s.advance.sysclkHz = s.sysclkHz := rfl
@[simp] theorem advance_clkdiv (s : State) : s.advance.clkdiv = s.clkdiv := rfl
@[simp] theorem advance_freqHz (s : State) : s.advance.freqHz = s.freqHz := rfl
@[simp] theorem advance_pwUs (s : State) : s.advance.pwUs = s.pwUs := rfl
@[simp] theorem advance_psUs (s : State) : s.advance.psUs = s.psUs := rfl
@[simp] theorem advance_countA (s : State) : s.advance.countA = s.countA := rfl
@[simp] theorem advance_countB (s : State) : s.advance.countB = s.countB := rfl
@[simp] theorem advance_countC (s : State) : s.advance.countC = s.countC := rfl
@[simp] theorem advance_countD (s : State) : s.advance.countD = s.countD := rfl
@[simp] theorem advance_busy (s : State) : s.advance.busy = s.busy := rfl
@[simp] theorem advance_done (s : State) : s.advance.done = s.done := rfl
@[simp] theorem advance_valid (s : State) : s.advance.valid = s.valid := rfl
@[simp] theorem advance_err (s : State) : s.advance.err = s.err := rfl
@[simp] theorem advance_ign (s : State) : s.advance.ign = s.ign := rfl
@[simp] theorem advance_errcode (s : State) : s.advance.errcode = s.errcode := rfl
@[simp] theorem advance_rsp (s : State) : s.advance.rsp = s.rsp := rfl
@[simp] theorem advance_schedule (s : State) : s.advance.schedule = s.schedule.tail := rfl

/-! ## State.present -/

@[simp] theorem present_sysclkHz (s : State) (w : ReqWord) : (s.present w).sysclkHz = s.sysclkHz := rfl
@[simp] theorem present_clkdiv (s : State) (w : ReqWord) : (s.present w).clkdiv = s.clkdiv := rfl
@[simp] theorem present_freqHz (s : State) (w : ReqWord) : (s.present w).freqHz = s.freqHz := rfl
@[simp] theorem present_pwUs (s : State) (w : ReqWord) : (s.present w).pwUs = s.pwUs := rfl
@[simp] theorem present_psUs (s : State) (w : ReqWord) : (s.present w).psUs = s.psUs := rfl
@[simp] theorem present_countA (s : State) (w : ReqWord) : (s.present w).countA = s.countA := rfl
@[simp] theorem present_countB (s : State) (w : ReqWord) : (s.present w).countB = s.countB := rfl
@[simp] theorem present_countC (s : State) (w : ReqWord) : (s.present w).countC = s.countC := rfl
@[simp] theorem present_countD (s : State) (w : ReqWord) : (s.present w).countD = s.countD := rfl
@[simp] theorem present_busy (s : State) (w : ReqWord) : (s.present w).busy = s.busy := rfl
@[simp] theorem present_done (s : State) (w : ReqWord) : (s.present w).done = s.done := rfl
@[simp] theorem present_valid (s : State) (w : ReqWord) : (s.present w).valid = s.valid := rfl
@[simp] theorem present_err (s : State) (w : ReqWord) : (s.present w).err = s.err := rfl
@[simp] theorem present_ign (s : State) (w : ReqWord) : (s.present w).ign = s.ign := rfl
@[simp] theorem present_errcode (s : State) (w : ReqWord) : (s.present w).errcode = s.errcode := rfl
@[simp] theorem present_rsp (s : State) (w : ReqWord) : (s.present w).rsp = s.rsp := rfl
@[simp] theorem present_schedule (s : State) (w : ReqWord) : (s.present w).schedule = CycleInput.ofRequest (Request.ofWord w) :: s.schedule := rfl

/-! ## setParam -/

@[simp] theorem setParam_countA (s : State) (p : ParamReg) (v : Word) : (setParam s p v).countA = s.countA := by
  cases p <;> rfl
@[simp] theorem setParam_countB (s : State) (p : ParamReg) (v : Word) : (setParam s p v).countB = s.countB := by
  cases p <;> rfl
@[simp] theorem setParam_countC (s : State) (p : ParamReg) (v : Word) : (setParam s p v).countC = s.countC := by
  cases p <;> rfl
@[simp] theorem setParam_countD (s : State) (p : ParamReg) (v : Word) : (setParam s p v).countD = s.countD := by
  cases p <;> rfl
@[simp] theorem setParam_busy (s : State) (p : ParamReg) (v : Word) : (setParam s p v).busy = s.busy := by
  cases p <;> rfl
@[simp] theorem setParam_done (s : State) (p : ParamReg) (v : Word) : (setParam s p v).done = s.done := by
  cases p <;> rfl
@[simp] theorem setParam_valid (s : State) (p : ParamReg) (v : Word) : (setParam s p v).valid = s.valid := by
  cases p <;> rfl
@[simp] theorem setParam_err (s : State) (p : ParamReg) (v : Word) : (setParam s p v).err = s.err := by
  cases p <;> rfl
@[simp] theorem setParam_ign (s : State) (p : ParamReg) (v : Word) : (setParam s p v).ign = s.ign := by
  cases p <;> rfl
@[simp] theorem setParam_errcode (s : State) (p : ParamReg) (v : Word) : (setParam s p v).errcode = s.errcode := by
  cases p <;> rfl
@[simp] theorem setParam_rsp (s : State) (p : ParamReg) (v : Word) : (setParam s p v).rsp = s.rsp := by
  cases p <;> rfl
@[simp] theorem setParam_schedule (s : State) (p : ParamReg) (v : Word) : (setParam s p v).schedule = s.schedule := by
  cases p <;> rfl
@[simp] theorem setParam_sysclkHz_sysclkHz (s : State) (v : Word) : (setParam s .sysclkHz v).sysclkHz = v := rfl
@[simp] theorem setParam_sysclkHz_clkdiv (s : State) (v : Word) : (setParam s .sysclkHz v).clkdiv = s.clkdiv := rfl
@[simp] theorem setParam_sysclkHz_freqHz (s : State) (v : Word) : (setParam s .sysclkHz v).freqHz = s.freqHz := rfl
@[simp] theorem setParam_sysclkHz_pwUs (s : State) (v : Word) : (setParam s .sysclkHz v).pwUs = s.pwUs := rfl
@[simp] theorem setParam_sysclkHz_psUs (s : State) (v : Word) : (setParam s .sysclkHz v).psUs = s.psUs := rfl
@[simp] theorem setParam_clkdiv_sysclkHz (s : State) (v : Word) : (setParam s .clkdiv v).sysclkHz = s.sysclkHz := rfl
@[simp] theorem setParam_clkdiv_clkdiv (s : State) (v : Word) : (setParam s .clkdiv v).clkdiv = dividerWord (dividerField v) := rfl
@[simp] theorem setParam_clkdiv_freqHz (s : State) (v : Word) : (setParam s .clkdiv v).freqHz = s.freqHz := rfl
@[simp] theorem setParam_clkdiv_pwUs (s : State) (v : Word) : (setParam s .clkdiv v).pwUs = s.pwUs := rfl
@[simp] theorem setParam_clkdiv_psUs (s : State) (v : Word) : (setParam s .clkdiv v).psUs = s.psUs := rfl
@[simp] theorem setParam_freqHz_sysclkHz (s : State) (v : Word) : (setParam s .freqHz v).sysclkHz = s.sysclkHz := rfl
@[simp] theorem setParam_freqHz_clkdiv (s : State) (v : Word) : (setParam s .freqHz v).clkdiv = s.clkdiv := rfl
@[simp] theorem setParam_freqHz_freqHz (s : State) (v : Word) : (setParam s .freqHz v).freqHz = v := rfl
@[simp] theorem setParam_freqHz_pwUs (s : State) (v : Word) : (setParam s .freqHz v).pwUs = s.pwUs := rfl
@[simp] theorem setParam_freqHz_psUs (s : State) (v : Word) : (setParam s .freqHz v).psUs = s.psUs := rfl
@[simp] theorem setParam_pwUs_sysclkHz (s : State) (v : Word) : (setParam s .pwUs v).sysclkHz = s.sysclkHz := rfl
@[simp] theorem setParam_pwUs_clkdiv (s : State) (v : Word) : (setParam s .pwUs v).clkdiv = s.clkdiv := rfl
@[simp] theorem setParam_pwUs_freqHz (s : State) (v : Word) : (setParam s .pwUs v).freqHz = s.freqHz := rfl
@[simp] theorem setParam_pwUs_pwUs (s : State) (v : Word) : (setParam s .pwUs v).pwUs = v := rfl
@[simp] theorem setParam_pwUs_psUs (s : State) (v : Word) : (setParam s .pwUs v).psUs = s.psUs := rfl
@[simp] theorem setParam_psUs_sysclkHz (s : State) (v : Word) : (setParam s .psUs v).sysclkHz = s.sysclkHz := rfl
@[simp] theorem setParam_psUs_clkdiv (s : State) (v : Word) : (setParam s .psUs v).clkdiv = s.clkdiv := rfl
@[simp] theorem setParam_psUs_freqHz (s : State) (v : Word) : (setParam s .psUs v).freqHz = s.freqHz := rfl
@[simp] theorem setParam_psUs_pwUs (s : State) (v : Word) : (setParam s .psUs v).pwUs = s.pwUs := rfl
@[simp] theorem setParam_psUs_psUs (s : State) (v : Word) : (setParam s .psUs v).psUs = v := rfl

/-! ## State.resetEdge: every field but the schedule is the reset value -/

@[simp] theorem resetEdge_sysclkHz (s : State) : s.resetEdge.sysclkHz = State.reset.sysclkHz := rfl
@[simp] theorem resetEdge_clkdiv (s : State) : s.resetEdge.clkdiv = State.reset.clkdiv := rfl
@[simp] theorem resetEdge_freqHz (s : State) : s.resetEdge.freqHz = State.reset.freqHz := rfl
@[simp] theorem resetEdge_pwUs (s : State) : s.resetEdge.pwUs = State.reset.pwUs := rfl
@[simp] theorem resetEdge_psUs (s : State) : s.resetEdge.psUs = State.reset.psUs := rfl
@[simp] theorem resetEdge_countA (s : State) : s.resetEdge.countA = State.reset.countA := rfl
@[simp] theorem resetEdge_countB (s : State) : s.resetEdge.countB = State.reset.countB := rfl
@[simp] theorem resetEdge_countC (s : State) : s.resetEdge.countC = State.reset.countC := rfl
@[simp] theorem resetEdge_countD (s : State) : s.resetEdge.countD = State.reset.countD := rfl
@[simp] theorem resetEdge_busy (s : State) : s.resetEdge.busy = State.reset.busy := rfl
@[simp] theorem resetEdge_done (s : State) : s.resetEdge.done = State.reset.done := rfl
@[simp] theorem resetEdge_valid (s : State) : s.resetEdge.valid = State.reset.valid := rfl
@[simp] theorem resetEdge_err (s : State) : s.resetEdge.err = State.reset.err := rfl
@[simp] theorem resetEdge_ign (s : State) : s.resetEdge.ign = State.reset.ign := rfl
@[simp] theorem resetEdge_errcode (s : State) : s.resetEdge.errcode = State.reset.errcode := rfl
@[simp] theorem resetEdge_rsp (s : State) : s.resetEdge.rsp = State.reset.rsp := rfl
@[simp] theorem resetEdge_schedule (s : State) : s.resetEdge.schedule = s.schedule := rfl

/-! ## engComplete: what ENG.COMPLETE never writes, and what it always does (R120) -/

@[simp] theorem engComplete_sysclkHz (d : Config.IdleDomain) (s : State) : (engComplete d s).sysclkHz = s.sysclkHz := by
  cases h : s.calcNow d <;> simp [engComplete, State.record, h]
@[simp] theorem engComplete_clkdiv (d : Config.IdleDomain) (s : State) : (engComplete d s).clkdiv = s.clkdiv := by
  cases h : s.calcNow d <;> simp [engComplete, State.record, h]
@[simp] theorem engComplete_freqHz (d : Config.IdleDomain) (s : State) : (engComplete d s).freqHz = s.freqHz := by
  cases h : s.calcNow d <;> simp [engComplete, State.record, h]
@[simp] theorem engComplete_pwUs (d : Config.IdleDomain) (s : State) : (engComplete d s).pwUs = s.pwUs := by
  cases h : s.calcNow d <;> simp [engComplete, State.record, h]
@[simp] theorem engComplete_psUs (d : Config.IdleDomain) (s : State) : (engComplete d s).psUs = s.psUs := by
  cases h : s.calcNow d <;> simp [engComplete, State.record, h]
@[simp] theorem engComplete_ign (d : Config.IdleDomain) (s : State) : (engComplete d s).ign = s.ign := by
  cases h : s.calcNow d <;> simp [engComplete, State.record, h]
@[simp] theorem engComplete_rsp (d : Config.IdleDomain) (s : State) : (engComplete d s).rsp = s.rsp := by
  cases h : s.calcNow d <;> simp [engComplete, State.record, h]
@[simp] theorem engComplete_schedule (d : Config.IdleDomain) (s : State) : (engComplete d s).schedule = s.schedule := by
  cases h : s.calcNow d <;> simp [engComplete, State.record, h]
@[simp] theorem engComplete_busy (d : Config.IdleDomain) (s : State) : (engComplete d s).busy = false := rfl
@[simp] theorem engComplete_done (d : Config.IdleDomain) (s : State) : (engComplete d s).done = true := rfl

end Sys2Proof.Machine
end

