-- ==== Sys2Proof/Laws/Ops.lean ====
section
/-! SUPPORT. One lemma per shared operation, saying all it can do; provers cite these instead of unfolding. -/

namespace Sys2Proof.Machine

/-! ## The operations of the requests -/

/-- A read changes the response alone (R80). -/
theorem readOp_eq (s : State) (r : Reg) : readOp s r = { s with rsp := ⟨false, readReg s r⟩ } := rfl

/-- A parameter write while locked sets IGN and answers (0, 0) (R92). -/
theorem writeParamOp_locked {s : State} (h : s.locked = true) (p : ParamReg) (v : Word) :
    writeParamOp s p v = { s with ign := true, rsp := ⟨false, 0#32⟩ } := by
  rw [writeParamOp, if_pos h]
  rfl

/-- A parameter write while not locked stores the value and answers (0, 0) (R92). -/
theorem writeParamOp_unlocked {s : State} (h : s.locked = false) (p : ParamReg) (v : Word) :
    writeParamOp s p v = { setParam s p v with rsp := ⟨false, 0#32⟩ } := by
  rw [writeParamOp, if_neg (by simp [h])]
  rfl

/-- An ignored request sets IGN and answers (0, 0) (R158). -/
theorem ignoreOp_eq (s : State) : ignoreOp s = { s with ign := true, rsp := ⟨false, 0#32⟩ } := rfl

/-- A bus error answers (1, 0) and changes nothing (R156). -/
theorem raiseBusError_eq (s : State) : raiseBusError s = { s with rsp := ⟨true, 0#32⟩ } := rfl

/-! ## The lock -/

theorem locked_eq_true_iff (s : State) : s.locked = true ↔ s.busy = true ∨ s.valid = true := by
  simp [State.locked]

theorem locked_eq_false_iff (s : State) : s.locked = false ↔ s.busy = false ∧ s.valid = false := by
  simp [State.locked]

/-! ## The dispatch -/

/-- All that an operation can do: if `exec` answers a next state, it is one of these. -/
theorem exec_cases {i : Instr} {s t : State} (h : exec i s = .next t) :
    (∃ r, t = readOp s r)
    ∨ (s.locked = false ∧ ∃ p v, t = (setParam s p v).respondDone)
    ∨ t = ignoreOp s
    ∨ t = s.respondDone
    ∨ (i = .cmdStart ∧ s.locked = false ∧ t = s.startFlags.respondDone)
    ∨ (i = .cmdClear ∧ s.busy = false ∧ t = (setCounts s.clearFlags 0#32 0#32 0#32 0#32).respondDone)
    ∨ t = raiseBusError s := by
  have hw : ∀ (p : ParamReg) (v : Word), writeParamOp s p v = t →
      (s.locked = false ∧ ∃ p v, t = (setParam s p v).respondDone) ∨ t = ignoreOp s := by
    intro p v hp
    cases hl : s.locked with
    | true => exact .inr (hp.symm.trans (writeParamOp_locked hl p v))
    | false => exact .inl ⟨rfl, p, v, hp.symm.trans (writeParamOp_unlocked hl p v)⟩
  cases i <;> injection h with h
  case rdSysclkHz | rdClkdiv | rdFreqHz | rdPwUs | rdPsUs | rdCmd | rdStatus | rdCountA | rdCountB | rdCountC
      | rdCountD => exact .inl ⟨_, h.symm⟩
  case wrSysclkHz | wrClkdiv | wrFreqHz | wrPwUs | wrPsUs =>
    rcases hw _ _ h with hs | hs
    · exact .inr (.inl hs)
    · exact .inr (.inr (.inl hs))
  case cmdNop => exact .inr (.inr (.inr (.inl h.symm)))
  case cmdStart =>
    cases hl : s.locked
    · exact .inr (.inr (.inr (.inr (.inl ⟨rfl, rfl, by simpa [hl] using h.symm⟩))))
    · exact .inr (.inr (.inl (by simpa [hl] using h.symm)))
  case cmdClear =>
    cases hb : s.busy
    · exact .inr (.inr (.inr (.inr (.inr (.inl ⟨rfl, rfl, by simpa [hb] using h.symm⟩)))))
    · exact .inr (.inr (.inl (by simpa [hb] using h.symm)))
  case cmdRsvd => exact .inr (.inr (.inl h.symm))
  case wrStatus | wrCountA | wrCountB | wrCountC | wrCountD | buserr =>
    exact .inr (.inr (.inr (.inr (.inr (.inr h.symm)))))

/-! ## The engine -/

/-- ENG.COMPLETE when CALC returns counts (R120). -/
theorem engComplete_of_ok {d : Config.IdleDomain} {s : State} {c : Counts} (h : s.calcNow d = .ok c) :
    engComplete d s = { s with countA := BitVec.ofNat 32 c.a, countB := BitVec.ofNat 32 c.b,
                               countC := BitVec.ofNat 32 c.c, countD := BitVec.ofNat 32 c.d,
                               valid := true, busy := false, done := true } := by
  rw [engComplete, h]
  rfl

/-- ENG.COMPLETE when CALC returns an error (R120, R150). -/
theorem engComplete_of_error {d : Config.IdleDomain} {s : State} {e : ConfigError} (h : s.calcNow d = .error e) :
    engComplete d s = { s with err := true, errcode := e.code, busy := false, done := true } := by
  rw [engComplete, h]
  rfl

/-! ## The clock cycle -/

/-- With `rst`, nothing but the reset happens (R163 c, R170). -/
theorem clockCycle_rst (d : Config.IdleDomain) {c : CycleInput} (h : c.rst = true) (s : State) :
    clockCycle d c s = .next s.resetEdge := by
  rw [clockCycle, if_pos h]

/-- Without `rst`, the request's operation and then, if it falls on this edge, ENG.COMPLETE (R163 b). -/
theorem clockCycle_of_request {d : Config.IdleDomain} {c : CycleInput} {s t : State} (h : c.rst = false)
    (hr : performRequest s c.req = .next t) :
    clockCycle d c s = .next (engineTurn d (c.complete && s.busy) t) := by
  rw [clockCycle, if_neg (by simp [h]), hr]

/-- All that a cycle can do: if it answers a next state, it is one of these. -/
theorem clockCycle_cases {d : Config.IdleDomain} {c : CycleInput} {s t : State} (h : clockCycle d c s = .next t) :
    (c.rst = true ∧ t = s.resetEdge)
    ∨ (c.rst = false ∧ ∃ u, performRequest s c.req = .next u ∧ t = engineTurn d (c.complete && s.busy) u) := by
  cases hc : c.rst with
  | true => exact .inl ⟨rfl, by rw [clockCycle_rst d hc] at h; injection h with h; exact h.symm⟩
  | false =>
    rw [clockCycle, if_neg (by simp [hc])] at h
    split at h
    · rename_i u hu
      injection h with h
      exact .inr ⟨rfl, u, hu, h.symm⟩
    · cases h
    · cases h

end Sys2Proof.Machine
end

