-- ==== Sys2Proof/Laws/PerInstr.lean ====
section
/-! SUPPORT. The family of statements made per operation: its word is of its row of the opcode table (R64). -/

namespace Sys2Proof.Laws.EncodeMatchesRow

/-- The canonical word of a well-formed operation is matched by the row of the opcode table that has its mnemonic (R64). -/
def Statement (i : Instr) : Prop :=
  i.WellFormed → ∃ r ∈ opcodeTable, r.mnemonic = i.mnemonic ∧ rowMatches (encode i) r = true

/-- A word is of a row that fixes W and ADDR when its W and ADDR are the row's. -/
theorem rowMatches_of_fields {r : OpcodeRow} (b : Bool) (a : Addr) (v : Word) (hm : r.mask = 0x7F00000000#39)
    (hp : r.pattern = mkReq b a 0#32) : rowMatches (mkReq b a v) r = true := by
  have mask : (0x7F00000000#39) = mkReq true 0x3F#6 0#32 := by decide
  rw [rowMatches, hm, hp, mask, beq_iff_eq]
  apply BitVec.eq_of_getLsbD_eq
  intro i hi
  rw [BitVec.getLsbD_and, getLsbD_mkReq, getLsbD_mkReq, getLsbD_mkReq]
  split_ifs with h h'
  · simp
  · interval_cases hk : i - 32 <;> simp
  · have e : i - 32 - 6 = 0 := by omega
    simp [e]

theorem rdSysclkHz : Statement .rdSysclkHz := fun _ => by decide

theorem rdClkdiv : Statement .rdClkdiv := fun _ => by decide

theorem rdFreqHz : Statement .rdFreqHz := fun _ => by decide

theorem rdPwUs : Statement .rdPwUs := fun _ => by decide

theorem rdPsUs : Statement .rdPsUs := fun _ => by decide

theorem rdCmd : Statement .rdCmd := fun _ => by decide

theorem rdStatus : Statement .rdStatus := fun _ => by decide

theorem rdCountA : Statement .rdCountA := fun _ => by decide

theorem rdCountB : Statement .rdCountB := fun _ => by decide

theorem rdCountC : Statement .rdCountC := fun _ => by decide

theorem rdCountD : Statement .rdCountD := fun _ => by decide

theorem wrSysclkHz (data : Word) : Statement (.wrSysclkHz data) := fun _ =>
  ⟨opcodeTable[11], List.getElem_mem _, rfl, rowMatches_of_fields _ _ _ rfl (by decide)⟩

theorem wrClkdiv (q : Divider) : Statement (.wrClkdiv q) := fun _ =>
  ⟨opcodeTable[12], List.getElem_mem _, rfl, rowMatches_of_fields _ _ _ rfl (by decide)⟩

theorem wrFreqHz (data : Word) : Statement (.wrFreqHz data) := fun _ =>
  ⟨opcodeTable[13], List.getElem_mem _, rfl, rowMatches_of_fields _ _ _ rfl (by decide)⟩

theorem wrPwUs (data : Word) : Statement (.wrPwUs data) := fun _ =>
  ⟨opcodeTable[14], List.getElem_mem _, rfl, rowMatches_of_fields _ _ _ rfl (by decide)⟩

theorem wrPsUs (data : Word) : Statement (.wrPsUs data) := fun _ =>
  ⟨opcodeTable[15], List.getElem_mem _, rfl, rowMatches_of_fields _ _ _ rfl (by decide)⟩

theorem cmdNop : Statement .cmdNop := fun _ => by decide

theorem cmdStart : Statement .cmdStart := fun _ => by decide

theorem cmdClear : Statement .cmdClear := fun _ => by decide

theorem cmdRsvd (data : Word) : Statement (.cmdRsvd data) := fun _ =>
  ⟨opcodeTable[19], List.getElem_mem _, rfl, rowMatches_of_fields _ _ _ rfl (by decide)⟩

theorem wrStatus (data : Word) : Statement (.wrStatus data) := fun _ =>
  ⟨opcodeTable[20], List.getElem_mem _, rfl, rowMatches_of_fields _ _ _ rfl (by decide)⟩

theorem wrCountA (data : Word) : Statement (.wrCountA data) := fun _ =>
  ⟨opcodeTable[21], List.getElem_mem _, rfl, rowMatches_of_fields _ _ _ rfl (by decide)⟩

theorem wrCountB (data : Word) : Statement (.wrCountB data) := fun _ =>
  ⟨opcodeTable[22], List.getElem_mem _, rfl, rowMatches_of_fields _ _ _ rfl (by decide)⟩

theorem wrCountC (data : Word) : Statement (.wrCountC data) := fun _ =>
  ⟨opcodeTable[23], List.getElem_mem _, rfl, rowMatches_of_fields _ _ _ rfl (by decide)⟩

theorem wrCountD (data : Word) : Statement (.wrCountD data) := fun _ =>
  ⟨opcodeTable[24], List.getElem_mem _, rfl, rowMatches_of_fields _ _ _ rfl (by decide)⟩

theorem buserr (write : Bool) (addr : Addr) (data : Word) : Statement (.buserr write addr data) := fun _ =>
  ⟨⟨"BUSERR", 0#39, 0#39⟩, by decide, rfl, by simp [rowMatches]⟩

end Sys2Proof.Laws.EncodeMatchesRow
end

