-- ==== Sys2Proof/Laws/Step.lean ====
section
/-! SUPPORT. What a step and a run of steps can do. -/

namespace Sys2Proof.Machine

/-- What the request of the coming cycle leaves, before the engine's turn: `nextOp`'s effect, or the idle response. -/
def requestLeaves (s u : State) : Prop :=
  match s.nextOp with
  | some i => exec i s.advance = .next u
  | none => u = s.advance.respond false 0#32

/-- All that a step can do: the reset, or the coming request and then, if it falls on this edge, ENG.COMPLETE. -/
theorem step_cases {s t : State} (h : step s = .next t) :
    (s.nextCycle.rst = true ∧ t = s.advance.resetEdge)
    ∨ (s.nextCycle.rst = false ∧ ∃ u, requestLeaves s u ∧ t = engineTurn .cyc s.completes u) := by
  rcases clockCycle_cases h with ⟨hr, ht⟩ | ⟨hr, u, hu, ht⟩
  · exact .inl ⟨hr, ht⟩
  · refine .inr ⟨hr, u, ?_, ?_⟩
    · rw [requestLeaves, State.nextOp, if_neg (by simp [hr])]
      cases hq : s.nextCycle.req with
      | none => rw [hq] at hu; injection hu with hu; exact hu.symm
      | some r => rw [hq] at hu; exact hu
    · rw [ht]
      simp [State.completes, hr, Config.idleDomain]

/-- While BUSY a request changes the response and IGN alone, and IGN only to 1 (R31, R163 b). -/
theorem requestLeaves_of_busy {s u : State} (hb : s.busy = true) (h : requestLeaves s u) :
    u = { s.advance with rsp := u.rsp, ign := u.ign } ∧ (u.ign = s.ign ∨ u.ign = true) := by
  unfold requestLeaves at h
  split at h
  · have hl : s.advance.locked = true := by simp [State.locked, hb]
    rcases exec_cases h with ⟨r, rfl⟩ | ⟨h', p, v, rfl⟩ | rfl | rfl | ⟨_, h', rfl⟩ | ⟨_, h', rfl⟩ | rfl
    · exact ⟨rfl, .inl rfl⟩
    · simp [hl] at h'
    · exact ⟨rfl, .inr rfl⟩
    · exact ⟨rfl, .inl rfl⟩
    · simp [hl] at h'
    · simp [hb] at h'
    · exact ⟨rfl, .inl rfl⟩
  · subst h
    exact ⟨rfl, .inl rfl⟩

@[simp] theorem run_zero (s : State) : run 0 s = .next s := rfl

/-- A run of any core: one step and then `k` (Host.Core.run). -/
theorem coreRun_succ (M : Host.Core) (k : Nat) {s t : M.State} (h : M.step s = .next t) :
    M.run (k + 1) s = M.run k t := by
  simp [Host.Core.run, h]

/-- A run of the hardware: one step and then `k`. -/
theorem run_succ (k : Nat) {s t : State} (h : step s = .next t) : run (k + 1) s = run k t :=
  coreRun_succ Sys2Proof.core k h

end Sys2Proof.Machine
end

