-- ==== Sys2Proof/Laws/Program.lean ====
section
/-! SUPPORT. The end of a run and the responses of its requests, one step at a time. -/

namespace Sys2Proof.Machine

/-- A run is over exactly when BUSY = 0 and no coming cycle presents a request (R182). -/
theorem finished_eq_true_iff (s : State) :
    s.finished = true ↔ s.busy = false ∧ ∀ c ∈ s.schedule, c.req = none := by
  simp [State.finished, List.all_eq_true, and_comm]

@[simp] theorem responses_zero (s : State) : responses 0 s = [] := rfl

/-- The responses of one step and then of `n`. -/
theorem responses_succ (n : Nat) {s t : State} (h : step s = .next t) :
    responses (n + 1) s = responseTo s t ++ responses n t := by
  simp [responses, h]

/-- A finished state ends the run at once. -/
theorem runToEnd_of_finished (n : Nat) {s : State} (h : s.finished = true) : runToEnd n s = some s := by
  cases n <;> simp [runToEnd, h]

/-- A state that is not finished ends the run as the state after its step does. -/
theorem runToEnd_succ (n : Nat) {s t : State} (hf : s.finished = false) (h : step s = .next t) :
    runToEnd (n + 1) s = runToEnd n t := by
  simp [runToEnd, hf, h]

/-- A step takes the coming cycle off the schedule and changes no other. -/
theorem step_schedule {s t : State} (h : step s = .next t) : t.schedule = s.schedule.tail := by
  rcases step_cases h with ⟨_, rfl⟩ | ⟨_, u, hu, rfl⟩
  · rfl
  · have hs : u.schedule = s.schedule.tail := by
      unfold requestLeaves at hu
      split at hu
      · rcases exec_cases hu with ⟨r, rfl⟩ | ⟨_, p, v, rfl⟩ | rfl | rfl | ⟨_, _, rfl⟩ | ⟨_, _, rfl⟩ | rfl <;>
          simp [readOp, ignoreOp, raiseBusError]
      · subst hu
        rfl
    unfold engineTurn
    split <;> simp [hs]

end Sys2Proof.Machine
end

