-- ==== Sys2Proof/Tests/Slice0.lean ====
section
/-! SUPPORT. Tests. Expected values are the tables of spec/95_test_vectors.md and the examples of the rules; the witnesses at
the end meet the hypotheses of the statements in Certificates/Slice0/Obligations.lean. -/

namespace Sys2Proof.Tests

open Sys2Proof Sys2Proof.Machine

/-! ## Small states -/

/-- The reset state with parameters written. -/
def configured (S Q F PW PS : Word) : State :=
  { State.reset with sysclkHz := S, clkdiv := Q, freqHz := F, pwUs := PW, psUs := PS }

/-- The parameters of vector V1. -/
def idleV1 : State := configured 125000000#32 3200#32 1000#32 5#32 5#32

/-- V1, a calculation in flight: STATUS = 0x001. -/
def busyV1 : State := { idleV1 with busy := true }

/-- V1, computed: STATUS = 0x006. -/
def validV1 : State :=
  { idleV1 with done := true, valid := true, countA := 46#32, countB := 46#32, countC := 46#32, countD := 9846#32 }

/-- Vector V12, computed: STATUS = 0x30A. -/
def errorV12 : State :=
  { configured 1000000#32 256#32 1000#32 500#32 0#32 with done := true, err := true, errcode := 3#4 }

/-- The parameters of V12, a calculation in flight. -/
def busyV12 : State := { configured 1000000#32 256#32 1000#32 500#32 0#32 with busy := true }

/-- A state with the cycles it will see. -/
def sched (s : State) (cs : List CycleInput) : State := { s with schedule := cs }

/-- A cycle that presents a request word. -/
def reqCycle (w : ReqWord) : CycleInput := CycleInput.ofRequest (Request.ofWord w)

/-- A cycle in which the engine completes. -/
def engCycle : CycleInput := ⟨false, none, true⟩

/-- A cycle in which nothing happens. -/
def quietCycle : CycleInput := ⟨false, none, false⟩

/-- A cycle with `rst`. -/
def rstCycle : CycleInput := ⟨true, none, false⟩

/-- The state a step, an operation or a run answers with. -/
def got (o : Host.Outcome State Fault Refusal) : State :=
  match o with
  | .next t => t
  | .fault _ => State.reset
  | .refused _ => State.reset

/-- One request word performed as the next step. -/
def req (s : State) (w : ReqWord) : State := got (step (sched s [reqCycle w]))

/-! ## WellFormed refuses the ill-formed -/

/-- CMD.RSVD does not carry a command's code (R67). -/
theorem test_wf_refuses_rsvd_start : (Instr.cmdRsvd 1#32).wellFormed = false := by decide
/-- BUSERR does not carry a mapped offset (R103). -/
theorem test_wf_refuses_buserr_mapped : (Instr.buserr true 0x2C#6 0#32).wellFormed = false := by decide
/-- A read BUSERR does not carry DATA (R63 c). -/
theorem test_wf_refuses_buserr_read_data : (Instr.buserr false 0x01#6 5#32).wellFormed = false := by decide
/-- What the three checks admit. -/
theorem test_wf_admits : (Instr.cmdRsvd 3#32).wellFormed = true ∧ (Instr.buserr true 0x3C#6 5#32).wellFormed = true
    ∧ (Instr.buserr false 0x3F#6 0#32).wellFormed = true := by decide

/-! ## Decoding: words written out from R64, R71 and 95_test_vectors.md -/

theorem test_decode_rd_params : decode 0x0000000000#39 = .rdSysclkHz ∧ decode 0x0400000000#39 = .rdClkdiv
    ∧ decode 0x0800000000#39 = .rdFreqHz ∧ decode 0x0C00000000#39 = .rdPwUs ∧ decode 0x1000000000#39 = .rdPsUs := by
  decide
theorem test_decode_rd_cmd_status : decode 0x1400000000#39 = .rdCmd ∧ decode 0x1800000000#39 = .rdStatus
    ∧ decode 0x18DEADBEEF#39 = .rdStatus := by decide
theorem test_decode_rd_counts : decode 0x2000000000#39 = .rdCountA ∧ decode 0x2400000000#39 = .rdCountB
    ∧ decode 0x2800000000#39 = .rdCountC ∧ decode 0x2C00000000#39 = .rdCountD := by decide
theorem test_decode_wr_params : decode 0x4007735940#39 = .wrSysclkHz 125000000#32
    ∧ decode 0x4400000C80#39 = .wrClkdiv 3200#24 ∧ decode 0x48000003E8#39 = .wrFreqHz 1000#32
    ∧ decode 0x4C00000005#39 = .wrPwUs 5#32 ∧ decode 0x5000000005#39 = .wrPsUs 5#32 := by decide
theorem test_decode_wr_clkdiv_top_byte : decode 0x44FF000C80#39 = .wrClkdiv 0x000C80#24 := by decide
theorem test_decode_commands : decode 0x5400000000#39 = .cmdNop ∧ decode 0x5400000001#39 = .cmdStart
    ∧ decode 0x5400000002#39 = .cmdClear ∧ decode 0x5400000003#39 = .cmdRsvd 3#32
    ∧ decode 0x5400000101#39 = .cmdRsvd 0x101#32 ∧ decode 0x5480000001#39 = .cmdRsvd 0x80000001#32 := by decide
theorem test_decode_read_only : decode 0x58FFFFFFFF#39 = .wrStatus 0xFFFFFFFF#32 ∧ decode 0x6000000007#39 = .wrCountA 7#32
    ∧ decode 0x6400000007#39 = .wrCountB 7#32 ∧ decode 0x6800000007#39 = .wrCountC 7#32
    ∧ decode 0x6C00000007#39 = .wrCountD 7#32 := by decide
theorem test_decode_buserr : decode 0x0100000000#39 = .buserr false 0x01#6 0#32
    ∧ decode 0x1C00000000#39 = .buserr false 0x1C#6 0#32 ∧ decode 0x7C00000000#39 = .buserr true 0x3C#6 0#32
    ∧ decode 0x5500000001#39 = .buserr true 0x15#6 1#32 ∧ decode 0x3F00000000#39 = .buserr false 0x3F#6 0#32 := by decide
theorem test_decode_table_word : decodeTableWord 40 0x4007735940 = some (.wrSysclkHz 125000000#32) := by decide

/-! ## Register access, rows A1 to A22 -/

theorem test_rd_sysclk : (req idleV1 0x0000000000#39).rsp = ⟨false, 0x07735940#32⟩ := by decide
theorem test_rd_clkdiv : (req idleV1 0x0400000000#39).rsp = ⟨false, 0x00000C80#32⟩ := by decide
theorem test_rd_freq : (req idleV1 0x0800000000#39).rsp = ⟨false, 0x000003E8#32⟩ := by decide
theorem test_rd_pw : (req { idleV1 with psUs := 9#32 } 0x0C00000000#39).rsp = ⟨false, 5#32⟩ := by decide
theorem test_rd_ps : (req { idleV1 with pwUs := 9#32 } 0x1000000000#39).rsp = ⟨false, 5#32⟩ := by decide
theorem test_rd_cmd : (req validV1 0x1400000000#39).rsp = ⟨false, 0#32⟩ := by decide
theorem test_rd_status_valid : (req validV1 0x1800000000#39).rsp = ⟨false, 0x006#32⟩ := by decide
theorem test_rd_status_error : (req { errorV12 with ign := true } 0x18DEADBEEF#39).rsp = ⟨false, 0x31A#32⟩ := by decide
theorem test_rd_count_a : (req validV1 0x2000000000#39).rsp = ⟨false, 0x2E#32⟩ := by decide
theorem test_rd_count_b : (req { validV1 with countA := 0#32 } 0x2400000000#39).rsp = ⟨false, 0x2E#32⟩ := by decide
theorem test_rd_count_c : (req validV1 0x2800000000#39).rsp = ⟨false, 0x2E#32⟩ := by decide
theorem test_rd_count_d : (req validV1 0x2C00000000#39).rsp = ⟨false, 0x2676#32⟩ := by decide
theorem test_wr_sysclk_A2 : (req State.reset 0x40FFFFFFFF#39).sysclkHz = 4294967295#32 := by decide
theorem test_wr_clkdiv_A3 : (req State.reset 0x44FFFFFFFF#39).clkdiv = 0x00FFFFFF#32 := by decide
theorem test_wr_clkdiv_A4 : (req idleV1 0x4401000000#39).clkdiv = 0#32 := by decide
theorem test_wr_freq_busy_A9 : (req busyV1 0x4800000005#39).freqHz = 1000#32
    ∧ (req busyV1 0x4800000005#39).statusWord = 0x011#32 := by decide
theorem test_wr_pw_valid_A10 : (req validV1 0x4C0000000A#39).pwUs = 5#32
    ∧ (req validV1 0x4C0000000A#39).statusWord = 0x016#32 := by decide
theorem test_wr_pw_error_A11 : (req errorV12 0x4C000001F3#39).pwUs = 499#32
    ∧ (req errorV12 0x4C000001F3#39).statusWord = 0x30A#32 := by decide
theorem test_wr_ps : (req idleV1 0x5000000007#39).psUs = 7#32 := by decide
theorem test_wr_status_A12 : req busyV1 0x58FFFFFFFF#39 = { busyV1 with rsp := ⟨true, 0#32⟩ } := by decide
theorem test_wr_count_a_A13 : req validV1 0x6000000007#39 = { validV1 with rsp := ⟨true, 0#32⟩ } := by decide
theorem test_wr_count_b_A14 : req validV1 0x6400000007#39 = { validV1 with rsp := ⟨true, 0#32⟩ } := by decide
theorem test_wr_count_c_A15 : req validV1 0x6800000007#39 = { validV1 with rsp := ⟨true, 0#32⟩ } := by decide
theorem test_wr_count_d_A16 : req validV1 0x6C00000007#39 = { validV1 with rsp := ⟨true, 0#32⟩ } := by decide
theorem test_buserr_A18 : req idleV1 0x7C00000000#39 = { idleV1 with rsp := ⟨true, 0#32⟩ } := by decide
theorem test_buserr_A20 : req idleV1 0x5500000001#39 = { idleV1 with rsp := ⟨true, 0#32⟩ } := by decide

/-! ## Commands, rows K1 to K15 -/

theorem test_nop_K2 : (req busyV1 0x5400000000#39).statusWord = 0x001#32 := by decide
theorem test_start_K3 : (req idleV1 0x5400000001#39).statusWord = 0x001#32 := by decide
theorem test_start_K7 : (req { errorV12 with ign := true } 0x5400000001#39).statusWord = 0x011#32 := by decide
theorem test_clear_K8 : req validV1 0x5400000002#39 = idleV1 := by decide
theorem test_clear_K10 : (req busyV1 0x5400000002#39).statusWord = 0x011#32 := by decide
theorem test_rsvd_K14 : (req validV1 0x54FFFFFFFF#39).statusWord = 0x016#32 := by decide
theorem test_rsvd_K15 : (req busyV1 0x5480000001#39).statusWord = 0x011#32 := by decide

/-! ## The byte view of the window, hand-computed from R42: 125000000 is 0x07735940 -/

theorem test_window_bytes : windowByte idleV1 0x00#6 = some 0x40#8 ∧ windowByte idleV1 0x03#6 = some 0x07#8
    ∧ windowByte idleV1 0x1C#6 = none := by decide

/-! ## The calculation, rows V1 to V37 -/

theorem test_calc_V1 : calcDelay .cyc 125000000 3200 1000 5 5 = .ok ⟨46, 46, 46, 9846⟩ := by decide
theorem test_calc_V3_both : calcDelay .cyc 48000000 3200 1000 5 3 = .ok ⟨15, 7, 15, 3787⟩
    ∧ calcDelay .us 48000000 3200 1000 5 3 = .ok ⟨15, 7, 15, 3786⟩ := by decide
theorem test_calc_V8_V9 : calcDelay .cyc 1000000 256 1000 5 4 = .ok ⟨1, 0, 1, 982⟩
    ∧ calcDelay .cyc 1000000 256 1000 3 0 = .ok ⟨0, 0, 0, 990⟩ := by decide
theorem test_calc_V10_V11 : calcDelay .cyc 1000000 256 1000 499 1 = .ok ⟨495, 0, 495, 0⟩
    ∧ calcDelay .cyc 1000000 256 1000 499 2 = .error .timing := by decide
theorem test_calc_V18_V17 : calcDelay .cyc 0 0 0 0 0 = .error .div0
    ∧ calcDelay .cyc 125000000 3200 0 5 5 = .error .freq0 := by decide
theorem test_calc_V21_V22 : calcDelay .cyc 4294967295 256 1 0 0 = .ok ⟨0, 0, 0, 4294967291⟩
    ∧ calcDelay .cyc 4294967295 255 1 0 0 = .error .range := by decide
theorem test_calc_V23_both :
    calcDelay .cyc 4294967295 256 1 499999 1 = .ok ⟨2147479348, 4290, 2147479348, 4293⟩
    ∧ calcDelay .us 4294967295 256 1 499999 1 = .ok ⟨2147479348, 4290, 2147479348, 4290⟩ := by decide
theorem test_calc_V26 : calcDelay .cyc 4294967295 1 1 4294967295 0 = .error .timing := by decide
theorem test_calc_V32_both : calcDelay .cyc 133000000 333 1234 7 11 = .ok ⟨711, 1120, 711, 80299⟩
    ∧ calcDelay .us 133000000 333 1234 7 11 = .ok ⟨711, 1120, 711, 80297⟩ := by decide
theorem test_calc_V37 : calcDelay .cyc 1000000 768 1000 3 0 = .ok ⟨0, 0, 0, 327⟩ := by decide

/-! ## The engine, the same cycle and reset, rows Z1 to Z5 -/

theorem test_eng_complete : got (step (sched busyV1 [engCycle])) = validV1 := by decide +kernel
theorem test_eng_error : got (step (sched busyV12 [engCycle])) = errorV12 := by decide
theorem test_reset_Z2 : got (step (sched busyV1 [rstCycle])) = State.reset := by decide
theorem test_same_cycle_Z3 :
    got (step (sched busyV1 [⟨false, some ⟨true, 0x0C#6, 9#32⟩, true⟩])) = { validV1 with ign := true } := by decide +kernel
theorem test_same_cycle_Z4 :
    got (step (sched busyV1 [⟨false, some ⟨false, 0x18#6, 0#32⟩, true⟩])) = { validV1 with rsp := ⟨false, 1#32⟩ } := by decide +kernel
theorem test_same_cycle_Z5 :
    got (step (sched validV1 [⟨true, some ⟨true, 0x0C#6, 9#32⟩, false⟩])) = State.reset := by decide
theorem test_start_not_completed_at_its_edge :
    got (step (sched idleV1 [⟨false, some ⟨true, 0x14#6, 1#32⟩, true⟩])) = busyV1 := by decide
theorem test_notation : (Line.wr .clkdiv 3200#32).word = some 0x4400000C80#39
    ∧ (Line.cmd 1#32).word = some 0x5400000001#39 ∧ (Line.rd .countD).word = some 0x2C00000000#39
    ∧ setdiv 12#16 128#8 = [.wr .clkdiv 3200#32] := by decide

/-- BUSY = 0 and only a request-free cycle to come: the run is over; with a request to come, or BUSY, it is not (R182). -/
theorem test_finished : (sched idleV1 [quietCycle]).finished = true
    ∧ (sched idleV1 [quietCycle, reqCycle 0x1800000000#39]).finished = false
    ∧ (sched busyV1 [quietCycle]).finished = false := by decide
/-- Program P2, lines 1 to 3: two responses for three cycles, STATUS = 0x10A. -/
theorem test_end_of_run_P2 : (sched State.reset [reqCycle 0x5400000001#39, engCycle, reqCycle 0x1800000000#39]).runProgram
    = some (State.observe { State.reset with done := true, err := true, errcode := 1#4 }
        [⟨false, 0#32⟩, ⟨false, 0x10A#32⟩]) := by decide

/-! ## The states of the tests have the invariants of R30 -/

theorem inv_reset : StateInv State.reset := by constructor <;> decide
theorem inv_idleV1 : StateInv idleV1 := by constructor <;> decide
theorem inv_busyV1 : StateInv busyV1 := by constructor <;> decide
theorem inv_validV1 : StateInv validV1 :=
  ⟨by decide, by decide, by decide, by decide, by decide, by decide, by decide, fun _ => test_calc_V1, by decide⟩
theorem inv_errorV12 : StateInv errorV12 := by constructor <;> decide
theorem inv_busyV12 : StateInv busyV12 := by constructor <;> decide
/-- The invariants do not speak of the schedule, the response outputs or IGN. -/
theorem inv_sched {s : State} (h : StateInv s) (cs : List CycleInput) : StateInv (sched s cs) :=
  ⟨h.1, h.2, h.3, h.4, h.5, h.6, h.7, h.8, h.9⟩

/-! ## Witnesses: each theorem meets the hypotheses of the statement it names, clause by clause, at boundary values -/

/-- Request words at the ends of each class: W and DATA free, all 26 rows, two distinct rows of the disjoint ones. -/
theorem witness_DecodeIsFirstMatchingRow :
    (∃ r₁ ∈ opcodeTable, ∃ r₂ ∈ opcodeTable, r₁ ≠ r₂ ∧ r₁.mnemonic = "CMD.NOP" ∧ r₂.mnemonic = "WR.COUNT_D")
    ∧ (decode 0x58FFFFFFFF#39).mnemonic = "WR.STATUS" ∧ (decode 0x6C00000000#39).mnemonic = "WR.COUNT_D"
    ∧ (decode 0x0100000000#39).mnemonic = "BUSERR" ∧ (decode 0x7FFFFFFFFF#39).mnemonic = "BUSERR" := by decide

/-- Well-formed operations with an operand at its ends. -/
theorem witness_DecodeOfEncodeIsIdentity :
    (Instr.wrClkdiv 0xFFFFFF#24).WellFormed ∧ (Instr.wrSysclkHz 0xFFFFFFFF#32).WellFormed
    ∧ (Instr.cmdRsvd 3#32).WellFormed ∧ (Instr.cmdRsvd 0xFFFFFFFF#32).WellFormed
    ∧ (Instr.buserr false 0x3F#6 0#32).WellFormed ∧ (Instr.buserr true 0x01#6 0xFFFFFFFF#32).WellFormed := by decide

/-- The classes (a), (b), (c) and an ordinary word. -/
theorem witness_NonOrdinaryEncodings :
    (decode 0x5800000000#39).mnemonic = "WR.STATUS" ∧ (3#32 ≠ 0#32 ∧ 3#32 ≠ 1#32 ∧ 3#32 ≠ 2#32)
    ∧ (0xFF000C80#32).extractLsb' 0 24 = (0x00000C80#32).extractLsb' 0 24
    ∧ (decode 0x5400000002#39).mnemonic ∉
        ["WR.STATUS", "WR.COUNT_A", "WR.COUNT_B", "WR.COUNT_C", "WR.COUNT_D", "BUSERR", "CMD.RSVD"] := by decide

/-- A bus error, a write and a read of a mapped register. -/
theorem witness_ResponseOfEveryRequest :
    (req validV1 0x1C00000000#39).rsp.err = true ∧ (0x5400000001#39).getLsbD 38 = true
    ∧ (0x2C00000000#39).getLsbD 38 = false ∧ Reg.ofAddr ((0x2C00000000#39).extractLsb' 32 6) = some .countD := by decide

theorem witness_CountReadsReturnTheRegister :
    StateInv validV1 ∧ StateInv busyV1 ∧ busyV1.valid = false := ⟨inv_validV1, inv_busyV1, rfl⟩

theorem witness_CommandRegisterReadsZero : ∃ t, exec .cmdStart idleV1 = .next t := ⟨_, rfl⟩

theorem witness_StatusReadReturnsTheFields :
    (StateInv validV1 ∧ validV1.valid = true ∧ validV1.ign = false)
    ∧ (StateInv State.reset ∧ State.reset.busy = false ∧ State.reset.valid = false ∧ State.reset.ign = false
        ∧ State.reset.clkdiv = 0#32) :=
  ⟨⟨inv_validV1, rfl, rfl⟩, inv_reset, rfl, rfl, rfl, rfl⟩

theorem witness_ReadsChangeNothing :
    Reg.ofAddr 0x00#6 = some .sysclkHz ∧ Reg.ofAddr 0x2C#6 = some .countD
    ∧ ∃ t, exec (decode (mkReq false 0x2C#6 5#32)) validV1 = .next t := ⟨by decide, by decide, _, rfl⟩

/-- Not locked (idle, and after an error), locked by BUSY, locked by VALID. -/
theorem witness_ParameterWritesStoreUnlessLocked :
    (idleV1.busy = false ∧ idleV1.valid = false) ∧ (errorV12.busy = false ∧ errorV12.valid = false)
    ∧ (busyV1.busy = true ∧ busyV1.valid = false) ∧ (validV1.busy = false ∧ validV1.valid = true) := by decide

theorem witness_DividerWriteDropsTopByte :
    idleV1.busy = false ∧ idleV1.valid = false
    ∧ ∃ t, exec (decode (mkReq true 0x04#6 0xFF000C80#32)) idleV1 = .next t := ⟨rfl, rfl, _, rfl⟩

/-- A stored and an ignored write, the first and the last register, a byte of the register before and of the last word. -/
theorem witness_ParameterWriteWindowFrame :
    (0x00#6 ∈ [0x00#6, 0x04#6, 0x08#6, 0x0C#6, 0x10#6]) ∧ (0x10#6 ∈ [0x00#6, 0x04#6, 0x08#6, 0x0C#6, 0x10#6])
    ∧ (∃ t, exec (decode (mkReq true 0x10#6 9#32)) idleV1 = .next t) ∧ (idleV1.busy = false ∧ idleV1.valid = false)
    ∧ (∃ t, exec (decode (mkReq true 0x10#6 9#32)) validV1 = .next t) ∧ (validV1.busy = true ∨ validV1.valid = true)
    ∧ ((0x0F#6).toNat / 4 ≠ (0x10#6).toNat / 4 ∧ (0x3F#6).toNat / 4 ≠ (0x10#6).toNat / 4 ∧ 0x3F#6 ≠ 0x18#6) :=
  ⟨by decide, by decide, ⟨_, rfl⟩, ⟨rfl, rfl⟩, ⟨_, rfl⟩, .inr rfl, by decide⟩

theorem witness_ParameterWritesAreIdempotent :
    (∃ t, exec (decode (mkReq true 0x0C#6 9#32)) validV1 = .next t)
    ∧ idleV1.busy = false ∧ idleV1.valid = false ∧ idleV1.ign = false ∧ ∃ t, exec .cmdStart idleV1 = .next t :=
  ⟨⟨_, rfl⟩, rfl, rfl, rfl, _, rfl⟩

/-- Misaligned and unmapped offsets at the ends. -/
theorem witness_IllegalRequestsAnswerBusError :
    (0x01#6).toNat % 4 ≠ 0 ∧ (0x3F#6).toNat % 4 ≠ 0 ∧ (0x1C#6).toNat ∈ [0x1C, 0x30, 0x34, 0x38, 0x3C]
    ∧ (0x3C#6).toNat ∈ [0x1C, 0x30, 0x34, 0x38, 0x3C] := by decide

/-- A bus error; a write ignored by the lock, a CLEAR while BUSY and a reserved command; IGN newly set. -/
theorem witness_BusErrorOrIgnoredNeverBoth :
    (got (exec (.wrStatus 0#32) validV1)).rsp.err = true
    ∧ ((Instr.wrPwUs 9#32).mnemonic = "WR.PW_US" ∧ validV1.locked = true) ∧ busyV1.busy = true
    ∧ (Instr.cmdRsvd 3#32).mnemonic = "CMD.RSVD"
    ∧ (validV1.ign = false ∧ (got (exec (.wrPwUs 9#32) validV1)).ign = true) := by decide

theorem witness_CommandStart :
    (errorV12.busy = false ∧ errorV12.valid = false) ∧ busyV1.busy = true ∧ validV1.valid = true := by decide

/-- Accepted from the valid state, ignored while BUSY; VALID and IGN released; a completion from a valid state. -/
theorem witness_CommandClear :
    validV1.busy = false ∧ busyV1.busy = true
    ∧ (∃ t, exec .cmdClear { validV1 with ign := true } = .next t ∧ validV1.valid = true ∧ t.valid = false ∧ t.ign = false) :=
  ⟨rfl, rfl, _, rfl, rfl, rfl, rfl⟩

theorem witness_ReservedCommandOnlySetsIgn :
    (3#32 ≠ 0#32 ∧ 3#32 ≠ 1#32 ∧ 3#32 ≠ 2#32)
    ∧ (0xFFFFFFFF#32 ≠ 0#32 ∧ 0xFFFFFFFF#32 ≠ 1#32 ∧ 0xFFFFFFFF#32 ≠ 2#32)
    ∧ ∃ t, exec (.cmdRsvd 3#32) State.reset = .next t := ⟨by decide, by decide, _, rfl⟩

/-! ### CALC -/

theorem witness_CalcIsTheExactFormula :
    (∃ c, calcDelay .cyc 48000000 3200 1000 5 3 = .ok c) ∧ (∃ c, calcDelay .us 48000000 3200 1000 5 3 = .ok c) :=
  ⟨⟨_, test_calc_V3_both.1⟩, _, test_calc_V3_both.2⟩

theorem witness_RawCountsSumToPeriod : ∃ c, calcDelay .cyc 4294967295 256 1 499999 1 = .ok c := ⟨_, test_calc_V23_both.1⟩

theorem witness_CountsAreMonotone : 0 < 1 ∧ 5 ≤ 6 ∧ 3 ≤ 3 := by decide

theorem witness_StoredCountFloor :
    0 ≤ 4 ∧ 4 ≤ 4 ∧ 4 < 5 ∧ ∃ c, calcDelay .cyc 4294967295 256 1 0 0 = .ok c :=
  ⟨by decide, by decide, by decide, _, test_calc_V21_V22.1⟩

/-- The largest total at F = 1000 (V10), and S = 0. -/
theorem witness_IdleTailNeverNegative :
    256 ≠ 0 ∧ 1000 ≠ 0 ∧ (2 * 499 + 1) * 1000 < 1000000 ∧ 0 < 1000000 := by decide

theorem witness_BoundsOfValidResults :
    (∃ c, calcDelay .cyc 4294967295 256 1 499999 1 = .ok c) ∧ 1 ≤ 2 * 499999 + 1
    ∧ (∃ c, calcDelay .us 0 256 1000 5 5 = .ok c) :=
  ⟨⟨_, test_calc_V23_both.1⟩, by decide, ⟨0, 0, 0, 0⟩, by decide⟩

theorem witness_WidthsOfIntermediates :
    4294967295 < 2 ^ 32 ∧ 16777215 < 2 ^ 24 ∧ 0 < 16777215 ∧ 0 < 1
    ∧ 1000000 ≤ requestedUs 500000 0 ∧ requestedUs 499999 1 * 1 < 1000000
    ∧ ∃ c, calcDelay .us 4294967295 256 1 499999 1 = .ok c :=
  ⟨by decide, by decide, by decide, by decide, by decide, by decide, _, test_calc_V23_both.2⟩

/-- The domains differ by 3; both raw idle tails at most 4. -/
theorem witness_IdleDomainsDifferByAtMostThree :
    (∃ c c', calcDelay .cyc 4294967295 256 1 499999 1 = .ok c ∧ calcDelay .us 4294967295 256 1 499999 1 = .ok c')
    ∧ (∃ c c', calcDelay .cyc 1000000 256 1000 499 1 = .ok c ∧ calcDelay .us 1000000 256 1000 499 1 = .ok c')
    ∧ idleRawCyc 1000000 256 1000 499 1 ≤ 4 ∧ idleRawUs 1000000 256 1000 499 1 ≤ 4 :=
  ⟨⟨_, _, test_calc_V23_both⟩, ⟨_, ⟨495, 0, 495, 0⟩, test_calc_V10_V11.1, by decide⟩, by decide, by decide⟩

/-! ### The clock cycle and the engine -/

/-- A request alone, and one with the completion. -/
theorem witness_StepRunsDecodedRequest :
    (∃ t, exec (decode (Request.toWord ⟨true, 0x14#6, 1#32⟩)) (sched idleV1 []) = .next t)
    ∧ (sched idleV1 [reqCycle 0x5400000001#39]).schedule = [⟨false, some ⟨true, 0x14#6, 1#32⟩, false⟩]
    ∧ (∃ t, exec (decode (Request.toWord ⟨false, 0x18#6, 0#32⟩)) (sched busyV1 []) = .next t) ∧ busyV1.busy = true :=
  ⟨⟨_, rfl⟩, by decide, ⟨_, rfl⟩, rfl⟩

/-- Idle, busy with a result, busy with each of the four errors. -/
theorem witness_EngineStepRecordsTheResult :
    (sched idleV1 []).nextCycle = ⟨false, none, true⟩ ∧ idleV1.busy = false
    ∧ (sched busyV1 [engCycle]).nextCycle = ⟨false, none, true⟩ ∧ busyV1.busy = true
    ∧ busyV1.calcNow .cyc = .ok ⟨46, 46, 46, 9846⟩
    ∧ (configured 1#32 0#32 1#32 0#32 0#32).calcNow .cyc = .error .div0
    ∧ (configured 1#32 1#32 0#32 0#32 0#32).calcNow .cyc = .error .freq0
    ∧ busyV12.calcNow .cyc = .error .timing
    ∧ (configured 0xFFFFFFFF#32 255#32 1#32 0#32 0#32).calcNow .cyc = .error .range :=
  ⟨rfl, rfl, rfl, rfl, test_calc_V1, by decide, by decide, by decide, by decide⟩

/-- A step into the error state, from a state that completes with an error. -/
theorem witness_ConfigErrorEntersErrorState :
    StateInv (sched busyV12 [engCycle]) ∧ (∃ t, step (sched busyV12 [engCycle]) = .next t ∧ t.err = true)
    ∧ busyV12.err = false ∧ (sched busyV12 [engCycle]).completes = true
    ∧ (sched busyV12 [engCycle]).calcNow .cyc = .error .timing :=
  ⟨inv_sched inv_busyV12 _, ⟨_, rfl, by decide⟩, rfl, rfl, by decide⟩

/-- The error state with each of the three ways out, and with a request that is none of them. -/
theorem witness_ErrorStateIsLeftOnlySo :
    (∀ cs, StateInv (sched errorV12 cs)) ∧ errorV12.err = true ∧ (∀ cs, ∃ t, step (sched errorV12 cs) = .next t)
    ∧ (sched errorV12 [rstCycle]).nextCycle.rst = true
    ∧ (sched errorV12 [reqCycle 0x5400000001#39]).nextOp = some .cmdStart
    ∧ (sched errorV12 [reqCycle 0x5400000002#39]).nextOp = some .cmdClear
    ∧ ((sched errorV12 [reqCycle 0x4C000001F3#39]).nextCycle.rst = false
        ∧ (sched errorV12 [reqCycle 0x4C000001F3#39]).nextOp = some (.wrPwUs 499#32)) := by
  refine ⟨inv_sched inv_errorV12, rfl, ?_, by decide, by decide, by decide, by decide⟩
  intro cs
  match cs with
  | [] => exact ⟨_, rfl⟩
  | ⟨true, _, _⟩ :: _ => exact ⟨_, rfl⟩
  | ⟨false, none, _⟩ :: _ => exact ⟨_, rfl⟩
  | ⟨false, some r, c⟩ :: cs =>
    have h : ∃ t, performRequest (sched errorV12 cs) (some r) = .next t := by
      rw [performRequest]
      cases decode r.toWord <;> exact ⟨_, rfl⟩
    obtain ⟨t, ht⟩ := h
    exact ⟨engineTurn .cyc (c && false) t, by
      show clockCycle .cyc ⟨false, some r, c⟩ (sched errorV12 cs) = _
      rw [clockCycle, if_neg Bool.false_ne_true, ht]
      rfl⟩

/-- Reset beside a request; completion beside a read, a parameter write and a CLEAR. -/
theorem witness_SimultaneousEvents :
    ((sched validV1 [⟨true, some ⟨true, 0x0C#6, 9#32⟩, false⟩]).nextCycle.rst = true)
    ∧ (sched busyV1 [⟨false, some ⟨false, 0x18#6, 0#32⟩, true⟩]).schedule = [⟨false, some ⟨false, 0x18#6, 0#32⟩, true⟩]
    ∧ (sched busyV1 [⟨false, some ⟨true, 0x10#6, 9#32⟩, true⟩]).completes = true
    ∧ 0x10#6 ∈ [0x00#6, 0x04#6, 0x08#6, 0x0C#6, 0x10#6]
    ∧ (sched busyV1 [⟨false, some ⟨true, 0x14#6, 2#32⟩, true⟩]).completes = true := by decide

/-- A busy state with quiet cycles and requests before the completion; the first steps of its run. -/
theorem witness_BusyAlwaysCompletes :
    (sched busyV1 [quietCycle, reqCycle 0x5400000002#39]).busy = true
    ∧ (∀ c ∈ (sched busyV1 [quietCycle, reqCycle 0x5400000002#39]).schedule, c.rst = false)
    ∧ ∃ v, run 1 (sched busyV1 [quietCycle, reqCycle 0x5400000002#39]) = .next v := ⟨rfl, by decide, _, rfl⟩

theorem witness_CompletionTimeIsIrrelevant :
    StateInv busyV1 ∧ busyV1.busy = true
    ∧ (∀ c ∈ [quietCycle, reqCycle 0x4C00000009#39, reqCycle 0x1800000000#39], c.rst = false ∧ c.complete = false) :=
  ⟨inv_busyV1, rfl, by decide⟩

/-- Two busy states that differ in IGN; the schedule of the second clause. -/
theorem witness_EqualParametersEqualResults :
    (StateInv (sched busyV1 [engCycle]) ∧ StateInv (sched { busyV1 with ign := true } [])
      ∧ (sched busyV1 [engCycle]).completes = true ∧ (sched { busyV1 with ign := true } []).completes = true
      ∧ State.sameParams (sched busyV1 [engCycle]) (sched { busyV1 with ign := true } [])
      ∧ (∃ t, step (sched busyV1 [engCycle]) = .next t) ∧ ∃ t, step (sched { busyV1 with ign := true } []) = .next t)
    ∧ (StateInv (sched idleV1 [reqCycle 0x5400000001#39, engCycle, reqCycle 0x5400000002#39, reqCycle 0x5400000001#39,
        engCycle]) ∧ idleV1.busy = false ∧ idleV1.valid = false) := by
  have h : StateInv { busyV1 with ign := true } :=
    ⟨by decide, by decide, by decide, by decide, by decide, by decide, by decide, by decide, by decide⟩
  exact ⟨⟨inv_sched inv_busyV1 _, inv_sched h _, rfl, rfl, ⟨rfl, rfl, rfl, rfl, rfl⟩, ⟨_, rfl⟩, _, rfl⟩,
    inv_sched inv_idleV1 _, rfl, rfl⟩

/-! ### Reset, the lock and the flags -/

/-- A reset in mid-calculation; an idle state with another request, and with none. -/
theorem witness_ResetOverridesAndAbandons :
    (sched busyV1 [rstCycle]).nextCycle.rst = true ∧ (∃ t, step (sched busyV1 [rstCycle]) = .next t)
    ∧ (validV1.busy = false ∧ (sched validV1 [reqCycle 0x5400000002#39]).nextOp ≠ some .cmdStart
        ∧ ∃ t, step (sched validV1 [reqCycle 0x5400000002#39]) = .next t)
    ∧ ((sched validV1 [quietCycle]).nextCycle.rst = false ∧ (sched validV1 [quietCycle]).nextCycle.req = none
        ∧ ∃ t, step (sched validV1 [quietCycle]) = .next t) :=
  ⟨rfl, ⟨_, rfl⟩, ⟨rfl, by decide, _, rfl⟩, rfl, rfl, _, rfl⟩

/-- Each of the nine changes, by a step without reset: the parameters written to all ones, VALID, IGN and the counts cleared,
BUSY ended. -/
theorem witness_OnlyResetDoesWhatResetDoes :
    StateInv (sched idleV1 [reqCycle 0x40FFFFFFFF#39]) ∧ (req idleV1 0x40FFFFFFFF#39).sysclkHz ≠ idleV1.sysclkHz
    ∧ (req idleV1 0x44FFFFFFFF#39).clkdiv ≠ idleV1.clkdiv ∧ (req idleV1 0x48FFFFFFFF#39).freqHz ≠ idleV1.freqHz
    ∧ (req idleV1 0x4CFFFFFFFF#39).pwUs ≠ idleV1.pwUs ∧ (req idleV1 0x50FFFFFFFF#39).psUs ≠ idleV1.psUs
    ∧ StateInv (sched validV1 [reqCycle 0x5400000002#39])
    ∧ (validV1.valid = true ∧ (req validV1 0x5400000002#39).valid = false)
    ∧ (req { validV1 with ign := true } 0x5400000002#39).ign = false
    ∧ (validV1.countA ≠ 0#32 ∧ (req validV1 0x5400000002#39).countA = 0#32)
    ∧ (busyV12.busy = true ∧ (got (step (sched busyV12 [engCycle]))).busy = false) :=
  ⟨inv_sched inv_idleV1 _, by decide, by decide, by decide, by decide, by decide, inv_sched inv_validV1 _, by decide,
    by decide, by decide, by decide⟩

/-- Locked by BUSY and by VALID; each release of the lock; a valid state that stays valid. -/
theorem witness_LockIsReleasedOnlySo :
    (busyV1.locked = true ∧ validV1.locked = true)
    ∧ ((Instr.cmdStart).mnemonic = "CMD.START" ∧ (Instr.wrSysclkHz 0#32).mnemonic = "WR.SYSCLK_HZ")
    ∧ (got (step (sched busyV12 [engCycle]))).locked = false ∧ (got (step (sched validV1 [rstCycle]))).locked = false
    ∧ (req validV1 0x5400000002#39).locked = false
    ∧ (validV1.valid = true ∧ validV1.busy = false ∧ (req validV1 0x4C00000009#39).valid = true) := by decide

/-- BUSY from 0 to 1 and back; the ignored requests while BUSY. -/
theorem witness_BusyTransitions :
    (∃ t, step (sched idleV1 [reqCycle 0x5400000001#39]) = .next t ∧ idleV1.busy = false ∧ t.busy = true)
    ∧ (∃ t, step (sched busyV12 [engCycle]) = .next t ∧ busyV12.busy = true ∧ t.busy = false)
    ∧ (Instr.cmdClear).mnemonic = "CMD.CLEAR" ∧ (Instr.cmdRsvd 3#32).mnemonic = "CMD.RSVD" :=
  ⟨⟨_, rfl, rfl, rfl⟩, ⟨_, rfl, rfl, by decide⟩, rfl, rfl⟩

theorem witness_DoneTransitions :
    StateInv (sched errorV12 [reqCycle 0x5400000001#39])
    ∧ ∃ t, step (sched errorV12 [reqCycle 0x5400000001#39]) = .next t ∧ t.done = false :=
  ⟨inv_sched inv_errorV12 _, _, rfl, rfl⟩

/-- A step that sets IGN, one that keeps it, and a reset. -/
theorem witness_IgnIsStickyAndAffectsNothing :
    (∃ t, step (sched validV1 [reqCycle 0x4C00000009#39]) = .next t ∧ t.ign = true)
    ∧ (sched validV1 [reqCycle 0x4C00000009#39]).nextCycle.rst = false
    ∧ (∃ t, step (sched validV1 [rstCycle]) = .next t) ∧ (sched validV1 [rstCycle]).nextCycle.rst = true
    ∧ (sched validV1 [reqCycle 0x0C00000000#39]).nextOp ≠ some .rdStatus :=
  ⟨⟨_, rfl, rfl⟩, rfl, ⟨_, rfl⟩, rfl, by decide⟩

/-- A step that changes the counts, by the engine. -/
theorem witness_CountsComeFromTheEngine :
    StateInv (sched busyV1 [engCycle]) ∧ (∃ t, step (sched busyV1 [engCycle]) = .next t)
    ∧ (got (step (sched busyV1 [engCycle]))).countD ≠ busyV1.countD ∧ (sched busyV1 [engCycle]).completes = true
    ∧ (sched busyV1 [engCycle]).calcNow .cyc = .ok ⟨46, 46, 46, 9846⟩ :=
  ⟨inv_sched inv_busyV1 _, ⟨_, rfl⟩, by rw [test_eng_complete]; decide, rfl, test_calc_V1⟩

/-- A stretch of one step over an ignored write, valid at both ends; a CLEAR. -/
theorem witness_ConsumerSeesStableCounts :
    StateInv (sched validV1 [reqCycle 0x4C00000009#39])
    ∧ (∃ t, run 1 (sched validV1 [reqCycle 0x4C00000009#39]) = .next t)
    ∧ (∀ j u, j ≤ 1 → run j (sched validV1 [reqCycle 0x4C00000009#39]) = .next u → u.sideband.cntValid = true)
    ∧ validV1.busy = false ∧ (sched validV1 [reqCycle 0x5400000002#39]).nextOp = some .cmdClear
    ∧ ∃ t, step (sched validV1 [reqCycle 0x5400000002#39]) = .next t :=
  ⟨inv_sched inv_validV1 _, ⟨_, rfl⟩, fun j u hj h => by
      match j with
      | 0 => injection h with h; subst h; rfl
      | 1 => injection h with h; subst h; rfl, rfl, by decide, _, rfl⟩

theorem witness_StepKeepsInvariants :
    StateInv (sched busyV1 [⟨false, some ⟨true, 0x0C#6, 9#32⟩, true⟩])
    ∧ ∃ t, step (sched busyV1 [⟨false, some ⟨true, 0x0C#6, 9#32⟩, true⟩]) = .next t :=
  ⟨inv_sched inv_busyV1 _, _, rfl⟩

theorem witness_StatusTakesSevenValues : StateInv State.reset ∧ StateInv errorV12 := ⟨inv_reset, inv_errorV12⟩

end Sys2Proof.Tests
end

