-- ==== Sys2Proof/Proofs/StateFlags.lean ====
section
/-! SUPPORT. What a request and a step do to the flags, the lock and IGN (spec/10_state.md R22 to R26, R31). -/

namespace Sys2Proof.Machine

/-! ## The ignored requests (R158) -/

/-- A request is ignored: a parameter write or START while locked, a CLEAR while BUSY, a reserved command always. -/
def Ignored (i : Instr) (s : State) : Prop :=
  (i.mnemonic ∈ ["WR.SYSCLK_HZ", "WR.CLKDIV", "WR.FREQ_HZ", "WR.PW_US", "WR.PS_US", "CMD.START"] ∧ s.locked = true)
    ∨ (i = .cmdClear ∧ s.busy = true) ∨ i.mnemonic = "CMD.RSVD"

@[simp] theorem ignored_advance (i : Instr) (s : State) : Ignored i s.advance ↔ Ignored i s := Iff.rfl

/-- While locked, a START and each parameter write do what an ignored request does. -/
theorem exec_lockable {i : Instr} {s : State} (hl : s.locked = true)
    (hm : i.mnemonic ∈ ["WR.SYSCLK_HZ", "WR.CLKDIV", "WR.FREQ_HZ", "WR.PW_US", "WR.PS_US", "CMD.START"]) :
    exec i s = .next (ignoreOp s) := by
  cases i
  case wrSysclkHz | wrClkdiv | wrFreqHz | wrPwUs | wrPsUs =>
    exact congrArg Host.Outcome.next (writeParamOp_locked hl _ _)
  case cmdStart => exact congrArg Host.Outcome.next (if_pos hl)
  all_goals simp [Instr.mnemonic] at hm

/-- A reserved command is ignored in every state (R114). -/
theorem exec_of_mnemonic_rsvd {i : Instr} (hm : i.mnemonic = "CMD.RSVD") (s : State) :
    exec i s = .next (ignoreOp s) := by
  cases i
  case cmdRsvd => rfl
  all_goals simp [Instr.mnemonic] at hm

theorem eq_cmdClear_of_mnemonic {i : Instr} (hm : i.mnemonic = "CMD.CLEAR") : i = .cmdClear := by
  cases i
  case cmdClear => rfl
  all_goals simp [Instr.mnemonic] at hm

/-- All that an ignored request does: IGN is set and the response is (0, 0). -/
theorem exec_of_ignored {i : Instr} {s : State} (h : Ignored i s) :
    exec i s = .next { s with ign := true, rsp := ⟨false, 0#32⟩ } := by
  rcases h with ⟨hm, hl⟩ | ⟨rfl, hb⟩ | hm
  · exact exec_lockable hl hm
  · exact congrArg Host.Outcome.next (if_pos hb)
  · exact exec_of_mnemonic_rsvd hm s

/-- While BUSY, every parameter write and every START, CLEAR and reserved command is ignored (R22). -/
theorem ignored_of_busy {i : Instr} {s : State} (hb : s.busy = true)
    (hm : i.mnemonic ∈ ["WR.SYSCLK_HZ", "WR.CLKDIV", "WR.FREQ_HZ", "WR.PW_US", "WR.PS_US", "CMD.START", "CMD.CLEAR",
      "CMD.RSVD"]) : Ignored i s := by
  by_cases hw : i.mnemonic ∈ ["WR.SYSCLK_HZ", "WR.CLKDIV", "WR.FREQ_HZ", "WR.PW_US", "WR.PS_US", "CMD.START"]
  · exact .inl ⟨hw, (locked_eq_true_iff s).2 (.inl hb)⟩
  · have hcr : i.mnemonic = "CMD.CLEAR" ∨ i.mnemonic = "CMD.RSVD" := by
      simp only [List.mem_cons, List.not_mem_nil] at hm hw
      tauto
    exact .inr (hcr.imp_left fun hc => ⟨eq_cmdClear_of_mnemonic hc, hb⟩)

/-- A request that is not ignored leaves IGN, unless it is a CLEAR. -/
theorem exec_ign_of_not_ignored {i : Instr} {s t : State} (hI : ¬ Ignored i s) (hc : i ≠ .cmdClear)
    (h : exec i s = .next t) : t.ign = s.ign := by
  cases i <;> injection h with h <;> subst h
  case wrSysclkHz | wrClkdiv | wrFreqHz | wrPwUs | wrPsUs =>
    have hl : s.locked = false := by simpa [Ignored, Instr.mnemonic] using hI
    simp [writeParamOp_unlocked hl]
  case cmdStart =>
    have hl : s.locked = false := by simpa [Ignored, Instr.mnemonic] using hI
    simp [hl]
  case cmdClear => exact absurd rfl hc
  case cmdRsvd => exact absurd (.inr (.inr rfl)) hI
  all_goals rfl

/-- IGN after a request: set by an ignored one, kept but for an accepted CLEAR (R26). -/
theorem exec_ign_iff {i : Instr} {s t : State} (h : exec i s = .next t) :
    t.ign = true ↔ Ignored i s ∨ (s.ign = true ∧ ¬ (i = .cmdClear ∧ s.busy = false)) := by
  by_cases hI : Ignored i s
  · rw [exec_of_ignored hI] at h
    injection h with h
    simp [← h, hI]
  · by_cases hc : i = .cmdClear
    · subst hc
      have hb : s.busy = false := by simpa [Ignored, Instr.mnemonic] using hI
      injection h with h
      simp [← h, hI, hb]
    · simp [exec_ign_of_not_ignored hI hc h, hI, hc]

/-! ## What a request does to the results and the flags -/

/-- An accepted START (R112). -/
theorem exec_cmdStart_accepted {s : State} (hl : s.locked = false) :
    exec .cmdStart s = .next s.startFlags.respondDone :=
  congrArg _ (if_neg (by simp [hl]))

/-- An accepted CLEAR (R113). -/
theorem exec_cmdClear_accepted {s : State} (hb : s.busy = false) :
    exec .cmdClear s = .next (setCounts s.clearFlags 0#32 0#32 0#32 0#32).respondDone :=
  congrArg _ (if_neg (by simp [hb]))

/-- The results, the flags but IGN and, while locked, the parameters are the same in two states. -/
def KeepsResults (s t : State) : Prop :=
  State.sameOutcome s t ∧ State.sameCounts s t ∧ (s.locked = true → State.sameParams s t)

/-- The coming cycle performs a START that is accepted (R112). -/
def State.acceptsStart (s : State) : Prop := s.nextOp = some .cmdStart ∧ s.locked = false

/-- The coming cycle performs a CLEAR that is accepted (R113). -/
def State.acceptsClear (s : State) : Prop := s.nextOp = some .cmdClear ∧ s.busy = false

theorem keepsResults_respond (s : State) (e : Bool) (v : Word) : KeepsResults s (s.respond e v) :=
  ⟨⟨rfl, rfl, rfl, rfl, rfl⟩, ⟨rfl, rfl, rfl, rfl⟩, fun _ => ⟨rfl, rfl, rfl, rfl, rfl⟩⟩

theorem keepsResults_ignoreOp (s : State) : KeepsResults s (ignoreOp s) :=
  ⟨⟨rfl, rfl, rfl, rfl, rfl⟩, ⟨rfl, rfl, rfl, rfl⟩, fun _ => ⟨rfl, rfl, rfl, rfl, rfl⟩⟩

theorem keepsResults_setParam {s : State} (hl : s.locked = false) (p : ParamReg) (v : Word) :
    KeepsResults s (setParam s p v).respondDone := by
  simp [KeepsResults, State.sameOutcome, State.sameCounts, hl]

/-- Only an accepted START and an accepted CLEAR touch the results or the flags, and no request a locked parameter. -/
theorem exec_result_cases {i : Instr} {s t : State} (h : exec i s = .next t) :
    (i = .cmdStart ∧ s.locked = false ∧ t = s.startFlags.respondDone)
    ∨ (i = .cmdClear ∧ s.busy = false ∧ t = (setCounts s.clearFlags 0#32 0#32 0#32 0#32).respondDone)
    ∨ (¬ (i = .cmdStart ∧ s.locked = false) ∧ ¬ (i = .cmdClear ∧ s.busy = false) ∧ KeepsResults s t) := by
  by_cases hs : i = .cmdStart ∧ s.locked = false
  · obtain ⟨rfl, hl⟩ := hs
    rw [exec_cmdStart_accepted hl] at h
    injection h with h
    exact .inl ⟨rfl, hl, h.symm⟩
  by_cases hc : i = .cmdClear ∧ s.busy = false
  · obtain ⟨rfl, hb⟩ := hc
    rw [exec_cmdClear_accepted hb] at h
    injection h with h
    exact .inr (.inl ⟨rfl, hb, h.symm⟩)
  refine .inr (.inr ⟨hs, hc, ?_⟩)
  rcases exec_cases h with ⟨r, rfl⟩ | ⟨hl, p, v, rfl⟩ | rfl | rfl | ⟨hi, hl, _⟩ | ⟨hi, hb, _⟩ | rfl
  · exact keepsResults_respond s _ _
  · exact keepsResults_setParam hl p v
  · exact keepsResults_ignoreOp s
  · exact keepsResults_respond s _ _
  · exact absurd ⟨hi, hl⟩ hs
  · exact absurd ⟨hi, hb⟩ hc
  · exact keepsResults_respond s _ _

/-- `exec_result_cases` for the request of the coming cycle, if there is one. -/
theorem requestLeaves_result_cases {s u : State} (h : requestLeaves s u) :
    (s.acceptsStart ∧ u = s.advance.startFlags.respondDone)
    ∨ (s.acceptsClear ∧ u = (setCounts s.advance.clearFlags 0#32 0#32 0#32 0#32).respondDone)
    ∨ (¬ s.acceptsStart ∧ ¬ s.acceptsClear ∧ KeepsResults s u) := by
  unfold requestLeaves at h
  unfold State.acceptsStart State.acceptsClear
  cases ho : s.nextOp with
  | none =>
    rw [ho] at h
    subst h
    exact .inr (.inr ⟨by simp, by simp, keepsResults_respond s.advance _ _⟩)
  | some i =>
    rw [ho] at h
    simp only [Option.some.injEq, and_assoc]
    exact exec_result_cases (s := s.advance) h

/-- IGN after the request of the coming cycle (R26). -/
theorem requestLeaves_ign_iff {s u : State} (h : requestLeaves s u) :
    u.ign = true ↔ (∃ i, s.nextOp = some i ∧ Ignored i s) ∨ (s.ign = true ∧ ¬ s.acceptsClear) := by
  unfold requestLeaves at h
  unfold State.acceptsClear
  cases ho : s.nextOp with
  | none =>
    rw [ho] at h
    subst h
    simp
  | some i =>
    rw [ho] at h
    simpa using exec_ign_iff (s := s.advance) h

/-! ## The coming cycle -/

theorem nextOp_of_rst {s : State} (h : s.nextCycle.rst = true) : s.nextOp = none := if_pos h

theorem rst_of_nextOp {s : State} {i : Instr} (h : s.nextOp = some i) : s.nextCycle.rst = false := by
  cases hr : s.nextCycle.rst
  · rfl
  · simp [nextOp_of_rst hr] at h

theorem completes_eq_true_iff (s : State) :
    s.completes = true ↔ s.nextCycle.rst = false ∧ s.nextCycle.complete = true ∧ s.busy = true := by
  simp [State.completes, and_assoc]

theorem completes_of_not_busy {s : State} (h : s.busy = false) : s.completes = false := by
  simp [State.completes, h]

/-- A START is accepted only while BUSY = VALID = 0, and not under reset. -/
theorem acceptsStart_iff (s : State) :
    s.acceptsStart ↔ s.nextOp = some .cmdStart ∧ s.busy = false ∧ s.valid = false := by
  rw [State.acceptsStart, locked_eq_false_iff]

/-- What a step does, by whether ENG.COMPLETE falls in it: `step_cases` with the engine's turn told apart. -/
theorem step_turn_cases {s t : State} (h : step s = .next t) :
    (s.nextCycle.rst = true ∧ t = s.advance.resetEdge)
    ∨ (s.completes = true ∧ ∃ u, requestLeaves s u ∧ t = engComplete .cyc u)
    ∨ (s.nextCycle.rst = false ∧ s.completes = false ∧ requestLeaves s t) := by
  rcases step_cases h with hr | ⟨hr, u, hu, rfl⟩
  · exact .inl hr
  · cases hc : s.completes
    · exact .inr (.inr ⟨hr, rfl, hu⟩)
    · exact .inr (.inl ⟨rfl, u, hu, rfl⟩)

/-- ENG.COMPLETE takes the parameters as they were before the cycle, whatever was requested in it (R31, R163 b). -/
theorem engComplete_of_requestLeaves {s u : State} (hb : s.busy = true) (h : requestLeaves s u) :
    (∃ c, s.calcNow .cyc = .ok c ∧ (engComplete .cyc u).valid = true ∧ (engComplete .cyc u).err = s.err)
    ∨ (∃ e, s.calcNow .cyc = .error e ∧ (engComplete .cyc u).valid = s.valid ∧ (engComplete .cyc u).err = true) := by
  obtain ⟨hu, -⟩ := requestLeaves_of_busy hb h
  have hcalc : u.calcNow .cyc = s.calcNow .cyc := by rw [hu]; rfl
  cases hs : s.calcNow .cyc with
  | ok c =>
    refine .inl ⟨c, rfl, ?_⟩
    rw [engComplete_of_ok (hcalc.trans hs), hu]
    exact ⟨rfl, rfl⟩
  | error e =>
    refine .inr ⟨e, rfl, ?_⟩
    rw [engComplete_of_error (hcalc.trans hs), hu]
    exact ⟨rfl, rfl⟩

@[simp] theorem engineTurn_ign (d : Config.IdleDomain) (due : Bool) (s : State) :
    (engineTurn d due s).ign = s.ign := by
  cases due <;> simp [engineTurn]

@[simp] theorem engineTurn_rsp (d : Config.IdleDomain) (due : Bool) (s : State) :
    (engineTurn d due s).rsp = s.rsp := by
  cases due <;> simp [engineTurn]

/-! ## BUSY and DONE after a step -/

/-- BUSY after a step (R22). -/
theorem step_busy_iff {s t : State} (h : step s = .next t) :
    t.busy = true ↔ s.nextCycle.rst = false ∧ s.completes = false ∧ (s.busy = true ∨ s.acceptsStart) := by
  rcases step_turn_cases h with ⟨hr, rfl⟩ | ⟨hc, u, -, rfl⟩ | ⟨hr, hc, hu⟩
  · simp [hr, State.reset]
  · simp [hc]
  · rcases requestLeaves_result_cases hu with ⟨ha, rfl⟩ | ⟨ha, rfl⟩ | ⟨ha, -, ⟨hbusy, -⟩, -⟩
    · simp [hr, hc, ha]
    · have hs : ¬ s.acceptsStart := by simp [State.acceptsStart, ha.1]
      simp [hr, hc, hs]
    · simp [hr, hc, ha, hbusy]

/-- DONE after a step (R23). -/
theorem step_done_iff {s t : State} (h : step s = .next t) :
    t.done = true ↔ s.nextCycle.rst = false
      ∧ (s.completes = true ∨ (s.done = true ∧ ¬ s.acceptsStart ∧ ¬ s.acceptsClear)) := by
  rcases step_turn_cases h with ⟨hr, rfl⟩ | ⟨hc, u, -, rfl⟩ | ⟨hr, hc, hu⟩
  · simp [hr, State.reset]
  · simp [hc, ((completes_eq_true_iff s).1 hc).1]
  · rcases requestLeaves_result_cases hu with ⟨ha, rfl⟩ | ⟨ha, rfl⟩ | ⟨hs, ha, ⟨-, hdone, -⟩, -⟩
    · simp [hc, ha]
    · simp [hc, ha]
    · simp [hr, hc, hs, ha, hdone]

/-- DONE = VALID or ERR is kept by every step from a state with the invariants of R30 (R23). -/
theorem step_done_eq_valid_or_err {s t : State} (hi : StateInv s) (h : step s = .next t) :
    t.done = (t.valid || t.err) := by
  rcases step_turn_cases h with ⟨-, rfl⟩ | ⟨hc, u, hu, rfl⟩ | ⟨-, -, hu⟩
  · rfl
  · obtain ⟨-, -, hb⟩ := (completes_eq_true_iff s).1 hc
    rcases engComplete_of_requestLeaves hb hu with ⟨_, -, hv, -⟩ | ⟨_, -, -, he⟩
    · simp [hv]
    · simp [he]
  · rcases requestLeaves_result_cases hu with ⟨ha, rfl⟩ | ⟨-, rfl⟩ | ⟨-, -, ⟨-, hdone, hvalid, herr, -⟩, -⟩
    · obtain ⟨-, -, hv⟩ := (acceptsStart_iff s).1 ha
      simp [hv]
    · rfl
    · rw [hdone, hvalid, herr, Bool.eq_iff_iff, Bool.or_eq_true]
      exact hi.done_iff

/-! ## The lock -/

/-- The three ways a step leaves a locked state unlocked (R31). -/
theorem unlock_cases {s t : State} (hl : s.locked = true) (h : step s = .next t) (ht : t.locked = false) :
    s.nextCycle.rst = true
    ∨ (s.busy = true ∧ s.completes = true ∧ ∃ e, s.calcNow .cyc = .error e)
    ∨ s.acceptsClear := by
  rw [locked_eq_false_iff] at ht
  obtain ⟨htb, htv⟩ := ht
  rcases step_turn_cases h with ⟨hr, -⟩ | ⟨hc, u, hu, rfl⟩ | ⟨-, -, hu⟩
  · exact .inl hr
  · obtain ⟨-, -, hb⟩ := (completes_eq_true_iff s).1 hc
    rcases engComplete_of_requestLeaves hb hu with ⟨_, -, hv, -⟩ | ⟨e, he, -, -⟩
    · simp [hv] at htv
    · exact .inr (.inl ⟨hb, hc, e, he⟩)
  · rcases requestLeaves_result_cases hu with ⟨⟨-, hnl⟩, -⟩ | ⟨ha, -⟩ | ⟨-, -, ⟨hbusy, -, hvalid, -⟩, -⟩
    · simp [hl] at hnl
    · exact .inr (.inr ha)
    · rcases (locked_eq_true_iff s).1 hl with hb | hv
      · simp [hbusy, hb] at htb
      · simp [hvalid, hv] at htv

/-- While VALID stays 1, the parameters and the counts stay (R24, R31). -/
theorem step_keeps_valid_results {s t : State} (hv : s.valid = true) (hb : s.busy = false) (h : step s = .next t)
    (ht : t.valid = true) : State.sameParams s t ∧ State.sameCounts s t := by
  have hl : s.locked = true := (locked_eq_true_iff s).2 (.inr hv)
  rcases step_turn_cases h with ⟨-, rfl⟩ | ⟨hc, -⟩ | ⟨-, -, hu⟩
  · simp [State.reset] at ht
  · simp [completes_of_not_busy hb] at hc
  · rcases requestLeaves_result_cases hu with ⟨⟨-, hnl⟩, -⟩ | ⟨-, rfl⟩ | ⟨-, -, -, hcounts, hparams⟩
    · simp [hl] at hnl
    · simp at ht
    · exact ⟨hparams hl, hcounts⟩

/-! ## Two machines that differ in IGN alone -/

/-- Two states are equal but for IGN and the response. -/
def EqButIgn (t u : State) : Prop := u = { t with ign := u.ign, rsp := u.rsp }

/-- A request on two states that differ in IGN leaves states equal but for IGN and the response, and only RD.STATUS makes
the responses differ. -/
theorem exec_eqButIgn (i : Instr) (s : State) (b : Bool) :
    ∃ t u, exec i s = .next t ∧ exec i { s with ign := b } = .next u ∧ EqButIgn t u
      ∧ (i ≠ .rdStatus → u.rsp = t.rsp) := by
  by_cases hI : Ignored i s
  · exact ⟨_, _, exec_of_ignored hI, exec_of_ignored (s := { s with ign := b }) hI, rfl, fun _ => rfl⟩
  cases i
  case wrSysclkHz | wrClkdiv | wrFreqHz | wrPwUs | wrPsUs =>
    have hl : s.locked = false := by simpa [Ignored, Instr.mnemonic] using hI
    exact ⟨_, _, congrArg Host.Outcome.next (writeParamOp_unlocked hl _ _),
      congrArg Host.Outcome.next (writeParamOp_unlocked (s := { s with ign := b }) hl _ _), rfl, fun _ => rfl⟩
  case cmdStart =>
    have hl : s.locked = false := by simpa [Ignored, Instr.mnemonic] using hI
    exact ⟨_, _, exec_cmdStart_accepted hl, exec_cmdStart_accepted (s := { s with ign := b }) hl, rfl, fun _ => rfl⟩
  case cmdClear =>
    have hb : s.busy = false := by simpa [Ignored, Instr.mnemonic] using hI
    exact ⟨_, _, exec_cmdClear_accepted hb, exec_cmdClear_accepted (s := { s with ign := b }) hb, rfl, fun _ => rfl⟩
  case rdStatus => exact ⟨_, _, rfl, rfl, rfl, fun h => absurd rfl h⟩
  all_goals exact ⟨_, _, rfl, rfl, rfl, fun _ => rfl⟩

/-- The engine neither reads nor writes IGN and the response. -/
theorem engComplete_eqButIgn (d : Config.IdleDomain) {t u : State} (h : EqButIgn t u) :
    EqButIgn (engComplete d t) (engComplete d u) := by
  have hcalc : u.calcNow d = t.calcNow d := by rw [h]; rfl
  unfold EqButIgn
  rw [engComplete_ign, engComplete_rsp]
  cases ht : t.calcNow d with
  | ok c => rw [engComplete_of_ok ht, engComplete_of_ok (hcalc.trans ht), h]
  | error e => rw [engComplete_of_error ht, engComplete_of_error (hcalc.trans ht), h]

theorem engineTurn_eqButIgn (d : Config.IdleDomain) (due : Bool) {t u : State} (h : EqButIgn t u) :
    EqButIgn (engineTurn d due t) (engineTurn d due u) := by
  cases due
  · exact h
  · exact engComplete_eqButIgn d h

/-- The coming cycle's request, or none, on two states that differ in IGN. -/
theorem performRequest_eqButIgn (q : Option Request) (s : State) (b : Bool) :
    ∃ t u, performRequest s q = .next t ∧ performRequest { s with ign := b } q = .next u ∧ EqButIgn t u
      ∧ (q.map (fun r => decode r.toWord) ≠ some .rdStatus → u.rsp = t.rsp) := by
  cases q with
  | none => exact ⟨_, _, rfl, rfl, rfl, fun _ => rfl⟩
  | some r =>
    obtain ⟨t, u, ht, hu, he, hrsp⟩ := exec_eqButIgn (decode r.toWord) s b
    exact ⟨t, u, ht, hu, he, fun hq => hrsp fun hi => hq (congrArg some hi)⟩

/-- A step from two states that differ in IGN alone (R26). -/
theorem step_eqButIgn (s : State) (b : Bool) :
    ∃ t u, step s = .next t ∧ step { s with ign := b } = .next u ∧ EqButIgn t u
      ∧ (s.nextOp ≠ some .rdStatus → u.rsp = t.rsp) := by
  cases hr : s.nextCycle.rst with
  | true => exact ⟨_, _, clockCycle_rst _ hr _, clockCycle_rst _ hr _, rfl, fun _ => rfl⟩
  | false =>
    obtain ⟨t, u, ht, hu, he, hrsp⟩ := performRequest_eqButIgn s.nextCycle.req s.advance b
    have hop : s.nextOp = s.nextCycle.req.map fun r => decode r.toWord := if_neg (by simp [hr])
    refine ⟨_, _, clockCycle_of_request hr ht, clockCycle_of_request hr hu, engineTurn_eqButIgn _ _ he, fun hn => ?_⟩
    rw [engineTurn_rsp, engineTurn_rsp]
    exact hrsp (hop ▸ hn)

/-! ## The statements -/

/-- Settles O46: the ignored requests by `exec_of_ignored`, the releases by `unlock_cases`. -/
theorem lockIsReleasedOnlySo : Obligations.LockIsReleasedOnlySo := by
  refine ⟨locked_eq_true_iff, ?_, ?_, fun s t hv hb h ht => step_keeps_valid_results hv hb h ht⟩
  · intro s i hl hi
    rcases hi with hm | hc
    · exact exec_of_ignored (.inl ⟨hm, hl⟩)
    · exact exec_of_ignored (.inr (.inl hc))
  · intro s t hl h ht
    rcases unlock_cases hl h ht with hr | he | ⟨ho, hb⟩
    · exact .inl hr
    · exact .inr (.inl he)
    · exact .inr (.inr ⟨hb, ho⟩)

/-- Settles O49: IGN by `requestLeaves_ign_iff`, as the engine leaves it; the other state by the relation `EqButIgn`, which
each part of a cycle keeps. -/
theorem ignIsStickyAndAffectsNothing : Obligations.IgnIsStickyAndAffectsNothing := by
  refine ⟨?_, ?_, step_eqButIgn⟩
  · intro s t h hr
    rcases step_cases h with ⟨hr', -⟩ | ⟨-, u, hu, rfl⟩
    · simp [hr] at hr'
    · rw [engineTurn_ign]
      exact requestLeaves_ign_iff hu
  · intro s t h hr
    rcases step_cases h with ⟨-, rfl⟩ | ⟨hr', -⟩
    · rfl
    · simp [hr] at hr'

/-- Settles O47: the two changes of BUSY are `step_busy_iff` read from BUSY = 0 and from BUSY = 1. -/
theorem busyTransitions : Obligations.BusyTransitions := by
  refine ⟨fun s t h => ⟨fun hb => ?_, fun hb => ?_⟩, fun s i hb hm => exec_of_ignored (ignored_of_busy hb hm)⟩
  · rw [step_busy_iff h, acceptsStart_iff]
    constructor
    · rintro ⟨-, -, hb' | ⟨ho, -, hv⟩⟩
      · simp [hb] at hb'
      · exact ⟨ho, hv⟩
    · exact fun ⟨ho, hv⟩ => ⟨rst_of_nextOp ho, completes_of_not_busy hb, .inr ⟨ho, hb, hv⟩⟩
  · rw [← Bool.not_eq_true, step_busy_iff h]
    simp [hb, imp_iff_not_or]

/-- Settles O48: `step_done_iff`, with its propositions turned into the statement's Booleans. -/
theorem doneTransitions : Obligations.DoneTransitions := by
  refine ⟨fun s t h => ?_, fun s t hi h => step_done_eq_valid_or_err hi h⟩
  rw [Bool.eq_iff_iff, step_done_iff h]
  simp [State.acceptsStart, State.acceptsClear, imp_iff_not_or, and_assoc]

/-- Settles O43: with Q = 0 the calculation from reset ends in DIV0. -/
theorem resetValues : Obligations.ResetValues := by
  refine ⟨?_, ?_, rfl, ?_⟩
  · decide
  · decide
  · exact ⟨_, rfl, rfl, rfl, rfl⟩

end Sys2Proof.Machine
end

section
/-! SUPPORT. What a consumer of the sideband sees over a run of steps (spec/20_memory.md R51). -/

namespace Sys2Proof.Machine

/-! ## Runs -/

/-- A run of `k + 1` steps of any core that answers a state is a step that answers one and a run of `k` from there. -/
theorem coreRun_succ_cases (M : Host.Core) {k : Nat} {s t : M.State} (h : M.run (k + 1) s = .next t) :
    ∃ u, M.step s = .next u ∧ M.run k u = .next t := by
  rw [Host.Core.run] at h
  split at h
  case h_1 u hu => exact ⟨u, hu, h⟩
  all_goals exact nomatch h

/-- A run of `k + 1` steps of the hardware, taken apart at its first. -/
theorem run_succ_cases {k : Nat} {s t : State} (h : run (k + 1) s = .next t) :
    ∃ u, step s = .next u ∧ run k u = .next t :=
  coreRun_succ_cases Sys2Proof.core h

/-! ## States that agree on the result -/

theorem sameParams_trans {s u t : State} (h : State.sameParams s u) (h' : State.sameParams u t) :
    State.sameParams s t := by
  obtain ⟨hs, hq, hf, hpw, hps⟩ := h
  obtain ⟨hs', hq', hf', hpw', hps'⟩ := h'
  exact ⟨hs'.trans hs, hq'.trans hq, hf'.trans hf, hpw'.trans hpw, hps'.trans hps⟩

theorem sameCounts_trans {s u t : State} (h : State.sameCounts s u) (h' : State.sameCounts u t) :
    State.sameCounts s t := by
  obtain ⟨ha, hb, hc, hd⟩ := h
  obtain ⟨ha', hb', hc', hd'⟩ := h'
  exact ⟨ha'.trans ha, hb'.trans hb, hc'.trans hc, hd'.trans hd⟩

/-! ## A stretch of valid states -/

/-- The engine cannot start in a step from a valid, idle state: VALID locks out START (R31, R112). -/
theorem step_busy_of_valid {s t : State} (hv : s.valid = true) (hb : s.busy = false) (h : step s = .next t) :
    t.busy = false := by
  rw [← Bool.not_eq_true, step_busy_iff h, acceptsStart_iff]
  simp [hb, hv]

/-- Along a run in which every state is valid, from an idle one, the parameters and the counts stay. -/
theorem run_keeps_valid_results (n : Nat) {s t : State} (hb : s.busy = false)
    (hv : ∀ j u, j ≤ n → run j s = .next u → u.valid = true) (h : run n s = .next t) :
    State.sameParams s t ∧ State.sameCounts s t := by
  induction n generalizing s with
  | zero =>
    injection h with h
    subst h
    exact ⟨⟨rfl, rfl, rfl, rfl, rfl⟩, rfl, rfl, rfl, rfl⟩
  | succ n ih =>
    obtain ⟨u, hsu, hut⟩ := run_succ_cases h
    have hvs : s.valid = true := hv 0 s (Nat.zero_le _) (run_zero s)
    have hvu : ∀ j v, j ≤ n → run j u = .next v → v.valid = true := fun j v hj hr =>
      hv (j + 1) v (Nat.succ_le_succ hj) ((run_succ j hsu).trans hr)
    obtain ⟨hp, hc⟩ := step_keeps_valid_results hvs hb hsu (hvu 0 u (Nat.zero_le _) (run_zero u))
    obtain ⟨hp', hc'⟩ := ih (step_busy_of_valid hvs hb hsu) hvu hut
    exact ⟨sameParams_trans hp hp', sameCounts_trans hc hc'⟩

/-! ## The edge of a CLEAR -/

/-- An accepted CLEAR is all that its cycle does: the engine is idle (R113). -/
theorem step_of_acceptsClear {s t : State} (ha : s.acceptsClear) (h : step s = .next t) :
    t = (setCounts s.advance.clearFlags 0#32 0#32 0#32 0#32).respondDone := by
  obtain ⟨ho, hb⟩ := ha
  rcases step_turn_cases h with ⟨hr, -⟩ | ⟨hc, -⟩ | ⟨-, -, hu⟩
  · simp [rst_of_nextOp ho] at hr
  · simp [completes_of_not_busy hb] at hc
  · rw [requestLeaves, ho] at hu
    exact (Host.Outcome.next.inj ((exec_cmdClear_accepted (s := s.advance) hb).symm.trans hu)).symm

/-! ## The statement -/

/-- Settles O51: `cnt_valid` is VALID, so the stretch is one of `run_keeps_valid_results`; the CLEAR is
`step_of_acceptsClear`. -/
theorem consumerSeesStableCounts : Obligations.ConsumerSeesStableCounts := by
  refine ⟨fun n s t hi hv h => ?_, fun s t hb ho h => ?_⟩
  · have hvs : s.valid = true := hv 0 s (Nat.zero_le _) (run_zero s)
    have hb : s.busy = false := by
      cases hb : s.busy with
      | false => rfl
      | true =>
        obtain ⟨-, hnv, -⟩ := hi.busy_clear hb
        exact absurd hvs (by simp [hnv])
    obtain ⟨hp, hc⟩ := run_keeps_valid_results n hb hv h
    exact ⟨hc, hp, hc⟩
  · rw [step_of_acceptsClear ⟨ho, hb⟩ h]
    simp [State.sideband, hb]

end Sys2Proof.Machine
end

section
/-! SUPPORT. The request word and its ports, the first matching row of the opcode table, the non-ordinary encodings and the
response of a request (spec/30_encoding.md R60, R62, R64, R66). -/

namespace Sys2Proof

/-! ## The request word as a number and as its fields (R60) -/

/-- The value of a request word: the offset, 0x40 above it for a write, above the 32 bits of DATA. -/
theorem toNat_mkReq (b : Bool) (a : Addr) (v : Word) :
    (mkReq b a v).toNat = ((if b then 0x40 else 0x00) + a.toNat) * 2 ^ 32 + v.toNat := by
  change BitVec.toNat (w := 1 + 6 + 32) (BitVec.ofBool b ++ a ++ v) = _
  rw [BitVec.toNat_append, BitVec.toNat_append, ← Nat.shiftLeft_add_eq_or_of_lt v.isLt,
    ← Nat.shiftLeft_add_eq_or_of_lt a.isLt, Nat.shiftLeft_eq, Nat.shiftLeft_eq]
  cases b <;> rfl

/-- Two request words are equal exactly when their W, ADDR and DATA are. -/
theorem reqWord_eq_iff (w w' : ReqWord) :
    w = w' ↔ reqWrite w = reqWrite w' ∧ reqAddr w = reqAddr w' ∧ reqData w = reqData w' := by
  refine ⟨fun h => by simp [h], fun ⟨hb, ha, hv⟩ => ?_⟩
  rw [← mkReq_fields w, hb, ha, hv, mkReq_fields]

theorem reqWrite_and (w w' : ReqWord) : reqWrite (w &&& w') = (reqWrite w && reqWrite w') :=
  BitVec.getLsbD_and

theorem reqAddr_and (w w' : ReqWord) : reqAddr (w &&& w') = reqAddr w &&& reqAddr w' :=
  BitVec.extractLsb'_and

theorem reqData_and (w w' : ReqWord) : reqData (w &&& w') = reqData w &&& reqData w' :=
  BitVec.extractLsb'_and

/-! ## What a request decodes to (R64) -/

/-- Off CMD, the mnemonic of a write does not depend on DATA. -/
theorem mnemonic_decodeWrite_data_irrelevant {a : Addr} (h : a ≠ Reg.cmd.offset) (v v' : Word) :
    (decodeWrite a v).mnemonic = (decodeWrite a v').mnemonic := by
  unfold decodeWrite
  split
  case h_6 ho => exact absurd (eq_offset_of_ofAddr ho) h
  all_goals rfl

theorem decodeWrite_cmd (v : Word) : decodeWrite Reg.cmd.offset v = decodeCommand v := by
  simp [decodeWrite]

theorem decodeWrite_clkdiv (v : Word) : decodeWrite Reg.clkdiv.offset v = .wrClkdiv (dividerField v) := by
  simp [decodeWrite]

theorem decodeCommand_reserved {v : Word} (h0 : v ≠ 0#32) (h1 : v ≠ 1#32) (h2 : v ≠ 2#32) :
    decodeCommand v = .cmdRsvd v := by
  rw [decodeCommand, if_neg h0, if_neg h1, if_neg h2]

theorem mnemonic_decodeCommand_ne_buserr (v : Word) : (decodeCommand v).mnemonic ≠ "BUSERR" := by
  unfold decodeCommand
  split_ifs <;> simp [Instr.mnemonic]

/-- Row 26 is taken by the offsets that name no register, for reads and writes alike (R103). -/
theorem mnemonic_decode_eq_buserr_iff (w : ReqWord) :
    (decode w).mnemonic = "BUSERR" ↔ Reg.ofAddr (reqAddr w) = none := by
  unfold decode decodeWrite decodeRead
  cases Reg.ofAddr (reqAddr w) with
  | none => split <;> simp [Instr.mnemonic]
  | some r =>
    split
    · cases r
      case cmd => simp only [mnemonic_decodeCommand_ne_buserr, reduceCtorEq]
      all_goals simp [Instr.mnemonic]
    · cases r <;> simp [Instr.mnemonic]

/-- BUSERR's offsets as numbers: misaligned, or one of the five unmapped words (R41, R103). -/
theorem isBusErrAddr_iff (a : Addr) :
    isBusErrAddr a = true ↔ a.toNat % 4 ≠ 0 ∨ a.toNat ∈ [0x1C, 0x30, 0x34, 0x38, 0x3C] := by
  revert a
  decide

/-! ## The test of a row of the opcode table, field by field (R64) -/

/-- The row's test on W and ADDR. -/
def rowIsAt (b : Bool) (a : Addr) (r : OpcodeRow) : Bool :=
  (b && reqWrite r.mask) == reqWrite r.pattern && a &&& reqAddr r.mask == reqAddr r.pattern

/-- The row's test on DATA. -/
def rowTakes (v : Word) (r : OpcodeRow) : Bool := v &&& reqData r.mask == reqData r.pattern

theorem rowMatches_eq (w : ReqWord) (r : OpcodeRow) :
    rowMatches w r = (rowIsAt (reqWrite w) (reqAddr w) r && rowTakes (reqData w) r) := by
  rw [Bool.eq_iff_iff]
  simp [rowMatches, rowIsAt, rowTakes, reqWord_eq_iff, reqWrite_and, reqAddr_and, reqData_and, and_assoc]

/-- The rows whose W and ADDR a request has, in priority order. -/
def rowsAt (b : Bool) (a : Addr) : List OpcodeRow := opcodeTable.filter (rowIsAt b a)

/-- The first matching row is the first of the rows at the request's W and ADDR that takes its DATA. -/
theorem find?_rowMatches (w : ReqWord) :
    opcodeTable.find? (rowMatches w) = (rowsAt (reqWrite w) (reqAddr w)).find? (rowTakes (reqData w)) := by
  simp only [rowsAt, List.find?_filter, funext (rowMatches_eq w), Bool.decide_and, Bool.decide_eq_true]

/-- Only the rows of a write to CMD look at DATA. -/
theorem rowTakes_of_not_command {b : Bool} {a : Addr} (h : b = false ∨ a ≠ Reg.cmd.offset) (v : Word) {r : OpcodeRow}
    (hr : r ∈ rowsAt b a) : rowTakes v r = true := by
  have hfree : reqData r.mask = 0#32 ∧ reqData r.pattern = 0#32 := by
    revert b a r
    decide
  simp [rowTakes, hfree]

theorem find?_rowTakes_of_not_command {b : Bool} {a : Addr} (h : b = false ∨ a ≠ Reg.cmd.offset) (v : Word) :
    (rowsAt b a).find? (rowTakes v) = (rowsAt b a).head? := by
  cases hl : rowsAt b a with
  | nil => rfl
  | cons r l => exact List.find?_cons_of_pos (rowTakes_of_not_command h v (hl ▸ List.mem_cons_self))

theorem mnemonic_head?_rowsAt_read (a : Addr) :
    (rowsAt false a).head?.map (·.mnemonic) = some (decodeRead a).mnemonic := by
  revert a
  decide

theorem mnemonic_head?_rowsAt_write {a : Addr} (h : a ≠ Reg.cmd.offset) :
    (rowsAt true a).head?.map (·.mnemonic) = some (decodeWrite a 0#32).mnemonic := by
  revert a
  decide

/-- At a write to CMD the rows are NOP, START and CLEAR, which fix DATA, then RSVD and BUSERR, which do not (R64). -/
theorem rowsAt_cmd :
    rowsAt true Reg.cmd.offset =
      [⟨"CMD.NOP", mkReq true Reg.cmd.offset 0#32, 0x7FFFFFFFFF#39⟩,
       ⟨"CMD.START", mkReq true Reg.cmd.offset 1#32, 0x7FFFFFFFFF#39⟩,
       ⟨"CMD.CLEAR", mkReq true Reg.cmd.offset 2#32, 0x7FFFFFFFFF#39⟩,
       ⟨"CMD.RSVD", mkReq true Reg.cmd.offset 0#32, 0x7F00000000#39⟩,
       ⟨"BUSERR", 0#39, 0#39⟩] := by
  decide

/-- A row that fixes the whole word takes its own DATA only. -/
theorem rowTakes_fixed (v v' : Word) (n : String) (b : Bool) (a : Addr) :
    rowTakes v ⟨n, mkReq b a v', 0x7FFFFFFFFF#39⟩ = (v == v') := by
  have hones : reqData 0x7FFFFFFFFF#39 = BitVec.allOnes 32 := by decide
  simp only [rowTakes, hones, BitVec.and_allOnes, reqData_mkReq]

/-- A row that fixes W and ADDR takes every DATA. -/
theorem rowTakes_free (v : Word) (n : String) (b : Bool) (a : Addr) :
    rowTakes v ⟨n, mkReq b a 0#32, 0x7F00000000#39⟩ = true := by
  have hzero : reqData 0x7F00000000#39 = 0#32 := by decide
  simp only [rowTakes, hzero, BitVec.and_zero, reqData_mkReq, beq_self_eq_true]

/-- The cases of a command's decode are its rows (R67). -/
theorem mnemonic_find?_command (v : Word) :
    ((rowsAt true Reg.cmd.offset).find? (rowTakes v)).map (·.mnemonic) = some (decodeCommand v).mnemonic := by
  simp only [rowsAt_cmd, List.find?_cons, rowTakes_fixed, rowTakes_free]
  by_cases h0 : v = 0#32
  · subst h0; rfl
  by_cases h1 : v = 1#32
  · subst h1; rfl
  by_cases h2 : v = 2#32
  · subst h2; rfl
  rw [decodeCommand_reserved h0 h1 h2, beq_eq_false_iff_ne.2 h0, beq_eq_false_iff_ne.2 h1, beq_eq_false_iff_ne.2 h2]
  rfl

/-- The mnemonic of the first matching row is that of the decoded operation (R64). -/
theorem mnemonic_find?_rowMatches (w : ReqWord) :
    (opcodeTable.find? (rowMatches w)).map (·.mnemonic) = some (decode w).mnemonic := by
  rw [find?_rowMatches]
  cases hb : reqWrite w with
  | false =>
    rw [find?_rowTakes_of_not_command (.inl rfl), mnemonic_head?_rowsAt_read]
    simp [decode, hb]
  | true =>
    by_cases ha : reqAddr w = Reg.cmd.offset
    · rw [ha, mnemonic_find?_command]
      simp [decode, hb, ha, decodeWrite_cmd]
    · rw [find?_rowTakes_of_not_command (.inr ha), mnemonic_head?_rowsAt_write ha]
      simp [decode, hb, mnemonic_decodeWrite_data_irrelevant ha (reqData w) 0#32]

/-- Two rows that match one word agree where both look. -/
theorem patterns_agree_of_rowMatches {w : ReqWord} {r₁ r₂ : OpcodeRow} (h₁ : rowMatches w r₁ = true)
    (h₂ : rowMatches w r₂ = true) : r₁.pattern &&& r₂.mask = r₂.pattern &&& r₁.mask := by
  rw [rowMatches, beq_iff_eq] at h₁ h₂
  rw [← h₁, ← h₂]
  ac_rfl

/-- The rows but CMD.RSVD and BUSERR differ, two by two, at a bit that both look at. -/
theorem patterns_differ : ∀ r₁ ∈ opcodeTable, ∀ r₂ ∈ opcodeTable, r₁ ≠ r₂ →
    r₁.mnemonic ≠ "CMD.RSVD" → r₁.mnemonic ≠ "BUSERR" → r₂.mnemonic ≠ "CMD.RSVD" → r₂.mnemonic ≠ "BUSERR" →
    r₁.pattern &&& r₂.mask ≠ r₂.pattern &&& r₁.mask := by
  decide

/-! ## The register a request reads (R62) -/

/-- The register an operation reads: none for a write, and none for a read that is a bus error. -/
def Instr.readTarget : Instr → Option Reg
  | .rdSysclkHz => some .sysclkHz
  | .rdClkdiv => some .clkdiv
  | .rdFreqHz => some .freqHz
  | .rdPwUs => some .pwUs
  | .rdPsUs => some .psUs
  | .rdCmd => some .cmd
  | .rdStatus => some .status
  | .rdCountA => some .countA
  | .rdCountB => some .countB
  | .rdCountC => some .countC
  | .rdCountD => some .countD
  | _ => none

/-- A read's operation reads the register at its offset, if one is mapped there. -/
theorem readTarget_decodeRead (a : Addr) : (decodeRead a).readTarget = Reg.ofAddr a := by
  unfold decodeRead
  cases Reg.ofAddr a with
  | none => rfl
  | some r => cases r <;> rfl

theorem readTarget_decodeCommand (v : Word) : (decodeCommand v).readTarget = none := by
  unfold decodeCommand
  split_ifs <;> rfl

theorem readTarget_decodeWrite (a : Addr) (v : Word) : (decodeWrite a v).readTarget = none := by
  unfold decodeWrite
  split
  case h_6 => exact readTarget_decodeCommand v
  all_goals rfl

/-- Only a read request reads a register, the one at its offset. -/
theorem readTarget_decode (w : ReqWord) :
    (decode w).readTarget = if reqWrite w then none else Reg.ofAddr (reqAddr w) := by
  unfold decode
  split
  · exact readTarget_decodeWrite _ _
  · exact readTarget_decodeRead _

/-! ## The illegal requests and the reserved commands (R66) -/

/-- The mnemonics of rows 21 to 26, the bus errors. -/
def busErrorMnemonics : List String :=
  ["WR.STATUS", "WR.COUNT_A", "WR.COUNT_B", "WR.COUNT_C", "WR.COUNT_D", "BUSERR"]

/-- The mnemonics of rows 1 to 19, the ordinary operations. -/
def ordinaryMnemonics : List String :=
  ["RD.SYSCLK_HZ", "RD.CLKDIV", "RD.FREQ_HZ", "RD.PW_US", "RD.PS_US", "RD.CMD", "RD.STATUS", "RD.COUNT_A", "RD.COUNT_B",
    "RD.COUNT_C", "RD.COUNT_D", "WR.SYSCLK_HZ", "WR.CLKDIV", "WR.FREQ_HZ", "WR.PW_US", "WR.PS_US", "CMD.NOP", "CMD.START",
    "CMD.CLEAR"]

/-- An operation is a bus error, the reserved command or an ordinary one. -/
theorem mnemonic_cases (i : Instr) :
    i.mnemonic ∈ busErrorMnemonics ∨ i.mnemonic = "CMD.RSVD" ∨ i.mnemonic ∈ ordinaryMnemonics := by
  cases i <;> simp [Instr.mnemonic, busErrorMnemonics, ordinaryMnemonics]

namespace Machine

/-- Rows 21 to 26 answer (1, 0) and change nothing (R156). -/
theorem exec_busError {i : Instr} (h : i.mnemonic ∈ busErrorMnemonics) (s : State) :
    exec i s = .next { s with rsp := ⟨true, 0#32⟩ } := by
  cases i
  case wrStatus | wrCountA | wrCountB | wrCountC | wrCountD | buserr => rfl
  all_goals simp [Instr.mnemonic, busErrorMnemonics] at h

/-! ## The response (R62) -/

/-- The bits of a response word: RDATA below bit 32, ERR at bit 32. -/
theorem getLsbD_toWord (r : Response) (i : Nat) :
    r.toWord.getLsbD i = if i < 32 then r.rdata.getLsbD i else (BitVec.ofBool r.err).getLsbD (i - 32) := by
  change BitVec.getLsbD (w := 1 + 32) (BitVec.ofBool r.err ++ r.rdata) i = _
  rw [BitVec.getLsbD_append]

theorem toWord_err (r : Response) : r.toWord.getLsbD 32 = r.err := by
  rw [getLsbD_toWord]
  cases r.err <;> rfl

theorem toWord_rdata (r : Response) : r.toWord.extractLsb' 0 32 = r.rdata := by
  apply BitVec.eq_of_getLsbD_eq
  intro i hi
  simp [getLsbD_toWord, hi]

/-- A parameter write answers (0, 0), stored or ignored (R92). -/
@[simp] theorem writeParamOp_rsp (s : State) (p : ParamReg) (v : Word) : (writeParamOp s p v).rsp = ⟨false, 0#32⟩ := by
  unfold writeParamOp
  split <;> rfl

/-- The response of an operation: (0, value) for a read, (1, 0) for a bus error, (0, 0) for the rest (R62). -/
def responseOf (s : State) (i : Instr) : Response :=
  match i.readTarget with
  | some r => ⟨false, readReg s r⟩
  | none => ⟨decide (i.mnemonic ∈ busErrorMnemonics), 0#32⟩

theorem responseOf_of_read {i : Instr} {r : Reg} (h : i.readTarget = some r) (s : State) :
    responseOf s i = ⟨false, readReg s r⟩ := by
  simp [responseOf, h]

theorem responseOf_of_no_read {i : Instr} (h : i.readTarget = none) (s : State) :
    responseOf s i = ⟨decide (i.mnemonic ∈ busErrorMnemonics), 0#32⟩ := by
  simp [responseOf, h]

/-- Every operation answers, in every state, with its response. -/
theorem exec_response (i : Instr) (s : State) : ∃ t, exec i s = .next t ∧ t.rsp = responseOf s i := by
  cases i
  case wrSysclkHz | wrClkdiv | wrFreqHz | wrPwUs | wrPsUs => exact ⟨_, rfl, writeParamOp_rsp s _ _⟩
  case cmdStart =>
    cases hl : s.locked with
    | true => exact ⟨_, exec_lockable hl (by simp [Instr.mnemonic]), rfl⟩
    | false => exact ⟨_, exec_cmdStart_accepted hl, rfl⟩
  case cmdClear =>
    cases hb : s.busy with
    | true => exact ⟨_, exec_of_ignored (.inr (.inl ⟨rfl, hb⟩)), rfl⟩
    | false => exact ⟨_, exec_cmdClear_accepted hb, rfl⟩
  all_goals exact ⟨_, rfl, rfl⟩

/-- A bus error reads no register. -/
theorem readTarget_eq_none_of_busError {i : Instr} (h : i.mnemonic ∈ busErrorMnemonics) : i.readTarget = none := by
  cases i
  case wrStatus | wrCountA | wrCountB | wrCountC | wrCountD | buserr => rfl
  all_goals simp [Instr.mnemonic, busErrorMnemonics] at h

/-- ERR is set exactly for the bus errors. -/
theorem responseOf_err_iff (s : State) (i : Instr) :
    (responseOf s i).err = true ↔ i.mnemonic ∈ busErrorMnemonics := by
  unfold responseOf
  split
  case h_1 r hr =>
    have hn : i.mnemonic ∉ busErrorMnemonics := fun h => by simp [readTarget_eq_none_of_busError h] at hr
    simp [hn]
  case h_2 => exact decide_eq_true_iff

/-! ## A cycle without a request (R183) -/

/-- A cycle with `req_valid = 0` in which the engine does not complete only answers (0, 0). -/
theorem clockCycle_no_request (d : Config.IdleDomain) (s : State) :
    clockCycle d ⟨false, none, false⟩ s = .next { s with rsp := ⟨false, 0#32⟩ } :=
  clockCycle_of_request rfl rfl

/-! ## The statements -/

/-- Settles O2: the first match by `mnemonic_find?_rowMatches`; two rows that match one word agree where both look. -/
theorem decodeIsFirstMatchingRow : Obligations.DecodeIsFirstMatchingRow := by
  refine ⟨rfl, mnemonic_find?_rowMatches, ?_, fun w => ?_, by decide, fun w s h => exec_busError h s⟩
  · rintro w r₁ h₁ r₂ h₂ hne hc₁ hb₁ hc₂ hb₂ ⟨hm₁, hm₂⟩
    exact patterns_differ r₁ h₁ r₂ h₂ hne hc₁ hb₁ hc₂ hb₂ (patterns_agree_of_rowMatches hm₁ hm₂)
  · rw [mnemonic_decode_eq_buserr_iff, ofAddr_eq_none_iff]
    exact isBusErrAddr_iff (reqAddr w)

/-- Settles O7: each class by the decode of its offset, "no others" by `mnemonic_cases`. -/
theorem nonOrdinaryEncodings : Obligations.NonOrdinaryEncodings := by
  refine ⟨fun w s h => exec_busError h s, fun v s h0 h1 h2 => ?_, fun v v' h => ?_, fun w h => ?_, fun s => rfl,
    fun a v v' => ?_⟩
  · have hd : decode (mkReq true Reg.cmd.offset v) = .cmdRsvd v := by
      rw [decode_mkReq, if_pos rfl, decodeWrite_cmd, decodeCommand_reserved h0 h1 h2]
    exact ⟨hd, (congrArg (exec · s) hd).trans (exec_of_mnemonic_rsvd rfl s)⟩
  · have hd : ∀ u, decode (mkReq true Reg.clkdiv.offset u) = .wrClkdiv (dividerField u) := fun u => by
      rw [decode_mkReq, if_pos rfl, decodeWrite_clkdiv]
    exact (hd v).trans ((congrArg Instr.wrClkdiv (by simpa only [dividerField_eq_extract] using h)).trans (hd v').symm)
  · rcases mnemonic_cases (decode w) with hb | hr | ho
    · exact absurd (List.mem_append_left ["CMD.RSVD"] hb) h
    · exact absurd (by simp [hr]) h
    · exact ho
  · rw [decode_mkReq, decode_mkReq]
    rfl

/-- Settles O8: the response is `responseOf` the decoded operation, which reads a register only for a read request. -/
theorem responseOfEveryRequest : Obligations.ResponseOfEveryRequest := by
  refine ⟨fun r => ⟨toWord_err r, toWord_rdata r⟩, fun w s => ?_⟩
  obtain ⟨t, ht, hr⟩ := exec_response (decode w) s
  have herr : t.rsp.err = true ↔ (decode w).mnemonic ∈ busErrorMnemonics := by rw [hr, responseOf_err_iff]
  have hzero : (decode w).readTarget = none → t.rsp.rdata = 0#32 := fun hn => by rw [hr, responseOf_of_no_read hn]
  refine ⟨t, ht, herr, fun he => hzero (readTarget_eq_none_of_busError (herr.1 he)), fun hw => hzero ?_,
    fun hw r ho => hr.trans (responseOf_of_read ?_ s)⟩
  · exact (readTarget_decode w).trans (if_pos hw)
  · exact ((readTarget_decode w).trans (if_neg (ne_true_of_eq_false hw))).trans ho

/-- Settles O1: the word's value is `toNat_mkReq`, its fields those of `mkReq`. -/
theorem requestWordIsThePorts : Obligations.RequestWordIsThePorts := by
  refine ⟨fun ⟨b, a, v⟩ => ?_, mkReq_fields, clockCycle_no_request⟩
  exact ⟨toNat_mkReq b a v, reqWrite_mkReq b a v, reqAddr_mkReq b a v, reqData_mkReq b a v,
    by simp [Request.ofWord, Request.toWord]⟩

end Machine

end Sys2Proof
end

section
/-! SUPPORT. The accesses to the registers: what the reads return, the value of STATUS, the parameter writes and the illegal
requests (spec/40_register_access.md R80 to R103). -/

namespace Sys2Proof

/-! ## The operation at an offset (R64) -/

/-- A read's operation is that of its offset alone: DATA is not examined (R63 c). -/
theorem decode_read (a : Addr) (v : Word) : decode (mkReq false a v) = decodeRead a := by
  simp [decode_mkReq]

theorem decode_write (a : Addr) (v : Word) : decode (mkReq true a v) = decodeWrite a v := by
  simp [decode_mkReq]

/-- At an offset that names no register, a read and a write are BUSERR (R103). -/
theorem decode_of_ofAddr_none {a : Addr} (h : Reg.ofAddr a = none) (b : Bool) (v : Word) :
    decode (mkReq b a v) = .buserr b a (if b then v else 0#32) := by
  cases b with
  | false => simp [decode_read, decodeRead, h]
  | true => simp [decode_write, decodeWrite, h]

namespace Machine

/-! ## The reads (R80) -/

/-- The operation at a register's offset answers with the value the register shows, and changes nothing. -/
theorem exec_decodeRead {r : Reg} {s : State} {v : Word} (h : readReg s r = v) :
    exec (decodeRead r.offset) s = .next { s with rsp := ⟨false, v⟩ } := by
  subst h
  cases r <;> rfl

/-- A read of an offset that names a register is the read of that register. -/
theorem exec_decode_read {a : Addr} {r : Reg} (h : Reg.ofAddr a = some r) (v : Word) (s : State) :
    exec (decode (mkReq false a v)) s = .next (readOp s r) := by
  rw [decode_read, eq_offset_of_ofAddr h, readOp_eq, exec_decodeRead rfl]

theorem memRead_of_ofAddr {a : Addr} {r : Reg} (h : Reg.ofAddr a = some r) (s : State) :
    memRead s a = ⟨false, readReg s r⟩ := by
  simp [memRead, h]

/-- The response is no register: a read after a read sees the same value. -/
@[simp] theorem readReg_respond (s : State) (e : Bool) (v : Word) (r : Reg) :
    readReg (s.respond e v) r = readReg s r := by
  cases r <;> rfl

/-- A read repeated at once leaves what it found. -/
theorem readOp_readOp (s : State) (r : Reg) : readOp (readOp s r) r = readOp s r := by
  simp only [readOp, readReg_respond]
  rfl

/-- CLKDIV reads as its 24 bits below a zero byte (R82). -/
theorem readReg_clkdiv (s : State) : readReg s .clkdiv = 0#8 ++ s.clkdiv.extractLsb' 0 24 :=
  (dividerWord_eq_append s.divider).trans (congrArg (0#8 ++ ·) (dividerField_eq_extract s.clkdiv))

/-! ## The counts (R88 to R91) -/

/-- A state with a valid result whose four counts are 0: S = 0 with Q = F = 1 and no pulse. -/
def zeroResult : State :=
  { State.reset with clkdiv := 1#32, freqHz := 1#32, done := true, valid := true }

theorem inv_zeroResult : StateInv zeroResult := by
  refine ⟨by decide, by decide, by decide, by decide, by decide, by decide, rfl, fun _ => ?_, by decide⟩
  show calcDelay .cyc 0 1 1 0 0 = .ok ⟨0, 0, 0, 0⟩
  decide

/-! ## The value of STATUS (R21, R87) -/

/-- Bits appended below a number. -/
theorem toNat_append_eq_add {m n : Nat} (x : BitVec m) (y : BitVec n) :
    (x ++ y).toNat = x.toNat * 2 ^ n + y.toNat := by
  rw [BitVec.toNat_append, ← Nat.shiftLeft_add_eq_or_of_lt y.isLt, Nat.shiftLeft_eq]

/-- STATUS as a number: its fields, each at its weight. -/
theorem toNat_statusWord (s : State) :
    s.statusWord.toNat = s.errcode.toNat * 256 + s.ign.toNat * 16 + s.err.toNat * 8 + s.valid.toNat * 4
      + s.done.toNat * 2 + s.busy.toNat := by
  change BitVec.toNat (w := 20 + 4 + 3 + 1 + 1 + 1 + 1 + 1)
    (0#20 ++ s.errcode ++ 0#3 ++ BitVec.ofBool s.ign ++ BitVec.ofBool s.err ++ BitVec.ofBool s.valid
      ++ BitVec.ofBool s.done ++ BitVec.ofBool s.busy) = _
  simp only [toNat_append_eq_add, BitVec.toNat_ofBool, BitVec.toNat_zero]
  omega

/-- Where the invariants hold there is no result, idle or BUSY, or a valid one, or an error with one of four codes. -/
theorem StateInv.result_cases {s : State} (h : StateInv s) :
    (s.errcode = 0#4 ∧ s.err = false ∧ s.valid = false ∧ s.done = false)
    ∨ (s.errcode = 0#4 ∧ s.err = false ∧ s.valid = true ∧ s.done = true ∧ s.busy = false)
    ∨ (s.errcode ∈ [1#4, 2#4, 3#4, 4#4] ∧ s.err = true ∧ s.valid = false ∧ s.done = true ∧ s.busy = false) := by
  have hbusy : s.done = true → s.busy = false := fun hd => by
    cases hb : s.busy with
    | false => rfl
    | true => simpa [hd] using h.busy_clear hb
  cases he : s.err with
  | true =>
    have hv : s.valid = false := by simpa [he] using h.not_both
    have hd : s.done = true := h.done_iff.2 (.inr he)
    exact .inr (.inr ⟨by simpa using h.err_code he, rfl, hv, hd, hbusy hd⟩)
  | false =>
    have hc := h.no_err_code he
    cases hv : s.valid with
    | true =>
      have hd : s.done = true := h.done_iff.2 (.inl hv)
      exact .inr (.inl ⟨hc, rfl, rfl, hd, hbusy hd⟩)
    | false =>
      have hd : s.done = false := by simpa [he, hv] using h.done_iff
      exact .inl ⟨hc, rfl, rfl, hd⟩

/-- The word of STATUS is the number of its fields. -/
theorem statusWord_eq_ofNat (s : State) (n : Nat)
    (h : s.errcode.toNat * 256 + s.ign.toNat * 16 + s.err.toNat * 8 + s.valid.toNat * 4 + s.done.toNat * 2
      + s.busy.toNat = n) : s.statusWord = BitVec.ofNat 32 n := by
  rw [← h, ← toNat_statusWord, BitVec.ofNat_toNat, BitVec.setWidth_eq]

/-- The seven values of STATUS without IGN (R87). -/
theorem StateInv.statusWord_mem {s : State} (h : StateInv s) :
    s.statusWord.toNat - s.ign.toNat * 16 ∈ [0x000, 0x001, 0x006, 0x10A, 0x20A, 0x30A, 0x40A] := by
  have hsub : s.statusWord.toNat - s.ign.toNat * 16 =
      s.errcode.toNat * 256 + s.err.toNat * 8 + s.valid.toNat * 4 + s.done.toNat * 2 + s.busy.toNat := by
    rw [toNat_statusWord]
    omega
  rw [hsub]
  rcases h.result_cases with ⟨hc, he, hv, hd⟩ | ⟨hc, he, hv, hd, hb⟩ | ⟨hc, he, hv, hd, hb⟩
  · cases hb : s.busy <;> simp [hc, he, hv, hd]
  · simp [hc, he, hv, hd, hb]
  · simp only [List.mem_cons, List.not_mem_nil, or_false] at hc
    rcases hc with hc | hc | hc | hc <;> simp [hc, he, hv, hd, hb]

/-- A valid result with IGN = 0 reads as VALID and DONE alone. -/
theorem StateInv.statusWord_of_valid {s : State} (h : StateInv s) (hv : s.valid = true) (hi : s.ign = false) :
    s.statusWord = 0x00000006#32 := by
  rcases h.result_cases with ⟨-, -, hv', -⟩ | ⟨hc, he, -, hd, hb⟩ | ⟨-, -, hv', -⟩
  · simp [hv] at hv'
  · exact statusWord_eq_ofNat s 6 (by simp [hc, he, hv, hd, hb, hi])
  · simp [hv] at hv'

/-! ## A START and its completion (R112, R120) -/

/-- A cycle that presents START, and the cycle in which the engine completes. -/
def startThenComplete : List CycleInput :=
  [CycleInput.ofRequest ⟨true, Reg.cmd.offset, 1#32⟩, CycleInput.silent]

/-- From an unlocked state, a START and its completion are ENG.COMPLETE of the state that START leaves. -/
theorem run_startThenComplete {s : State} (hl : s.locked = false) :
    run 2 { s with schedule := startThenComplete } =
      .next (engComplete .cyc { s.startFlags with rsp := ⟨false, 0#32⟩, schedule := [] }) := by
  have hstart : step { s with schedule := startThenComplete } =
      .next { s.startFlags with rsp := ⟨false, 0#32⟩, schedule := [CycleInput.silent] } :=
    clockCycle_of_request (c := CycleInput.ofRequest ⟨true, Reg.cmd.offset, 1#32⟩) rfl
      (exec_cmdStart_accepted (s := { s with schedule := [CycleInput.silent] }) hl)
  rw [run_succ 1 hstart]
  exact run_succ 0 rfl

theorem calcNow_of_divider_zero (d : Config.IdleDomain) {s : State} (h : s.divider = 0#24) :
    s.calcNow d = .error .div0 :=
  (calcDelay_eq_error_iff _ _ _ _ _ _ .div0).2 (by simp [h])

/-- A START with CLKDIV = 0 completes to the error DIV0. -/
theorem run_startThenComplete_div0 {s : State} (hl : s.locked = false) (hq : s.clkdiv = 0#32) :
    run 2 { s with schedule := startThenComplete } =
      .next { s with busy := false, done := true, err := true, errcode := 1#4, rsp := ⟨false, 0#32⟩, schedule := [] } := by
  rw [run_startThenComplete hl, engComplete_of_error (calcNow_of_divider_zero .cyc (by simp [State.divider, hq]))]
  rfl

/-! ## The parameter writes (R92) -/

/-- WR.CLKDIV, not locked, stores its 24 bits below a zero byte (R94). -/
theorem exec_wrClkdiv_unlocked {s : State} (hl : s.locked = false) (q : Divider) :
    exec (.wrClkdiv q) s = .next { s with clkdiv := 0#8 ++ q, rsp := ⟨false, 0#32⟩ } := by
  change Host.Outcome.next (writeParamOp s .clkdiv (dividerWord q)) = _
  rw [writeParamOp_unlocked hl, setParam, dividerField_dividerWord, dividerWord_eq_append]

/-! ## The statements -/

/-- Settles O13: the operation of a mapped offset is the read of its register, and a read repeated leaves what it found. -/
theorem readsChangeNothing : Obligations.ReadsChangeNothing := by
  intro a v r s h
  refine ⟨?_, memRead_of_ofAddr h s, fun t ht => ?_⟩
  · rw [exec_decode_read h, memRead_of_ofAddr h, readOp_eq]
  · rw [exec_decode_read h] at ht ⊢
    injection ht with ht
    rw [← ht, readOp_readOp]

/-- Settles O12: the value by `toNat_statusWord`, the seven values and 0x006 by the invariants, 0x10A by the run of a START
that ends in DIV0. -/
theorem statusReadReturnsTheFields : Obligations.StatusReadReturnsTheFields := by
  refine ⟨fun v => decode_read _ v, fun s => ?_, exec_decodeRead (r := .status) rfl, fun s _ hb hv hi hq => ?_⟩
  · exact ⟨s.statusWord, exec_decodeRead (r := .status) rfl, toNat_statusWord s, StateInv.statusWord_mem,
      StateInv.statusWord_of_valid⟩
  · refine ⟨_, run_startThenComplete_div0 ((locked_eq_false_iff s).2 ⟨hb, hv⟩) hq, exec_decodeRead (r := .status) ?_⟩
    exact statusWord_eq_ofNat _ 0x10A (by simp [hv, hi])

/-- Settles O9: each read is the read of its register; CLKDIV by `readReg_clkdiv`. -/
theorem parameterReadsReturnTheRegister : Obligations.ParameterReadsReturnTheRegister := by
  refine ⟨fun v => ⟨decode_read _ v, decode_read _ v, decode_read _ v, decode_read _ v, decode_read _ v⟩, fun s => ?_⟩
  exact ⟨exec_decodeRead (r := .sysclkHz) rfl, exec_decodeRead (readReg_clkdiv s), exec_decodeRead (r := .freqHz) rfl,
    exec_decodeRead (r := .pwUs) rfl, exec_decodeRead (r := .psUs) rfl⟩

/-- Settles O10: each read is the read of its register, whose value the invariants give. -/
theorem countReadsReturnTheRegister : Obligations.CountReadsReturnTheRegister := by
  refine ⟨fun v => ⟨decode_read _ v, decode_read _ v, decode_read _ v, decode_read _ v⟩,
    ⟨zeroResult, inv_zeroResult, rfl, rfl, rfl, rfl, rfl⟩, fun s => ?_⟩
  refine ⟨exec_decodeRead (r := .countA) rfl, exec_decodeRead (r := .countB) rfl, exec_decodeRead (r := .countC) rfl,
    exec_decodeRead (r := .countD) rfl, fun hinv => exec_decodeRead (r := .countC) hinv.c_is_a, fun hinv hv => ?_⟩
  obtain ⟨ha, hb, hc, hd⟩ := hinv.counts_zero hv
  exact ⟨exec_decodeRead (r := .countA) ha, exec_decodeRead (r := .countB) hb, exec_decodeRead (r := .countC) hc,
    exec_decodeRead (r := .countD) hd⟩

/-- Settles O11: CMD shows 0 in every state, those after a START included. -/
theorem commandRegisterReadsZero : Obligations.CommandRegisterReadsZero :=
  ⟨fun v => decode_read _ v, fun _ => exec_decodeRead (r := .cmd) rfl, fun _ _ _ => exec_decodeRead (r := .cmd) rfl⟩

/-- Settles O14: a parameter write stores by `writeParamOp_unlocked`, and while locked sets IGN by `writeParamOp_locked`. -/
theorem parameterWritesStoreUnlessLocked : Obligations.ParameterWritesStoreUnlessLocked := by
  refine ⟨fun s hb hv => ?_, fun s h => ?_⟩
  · have hl : s.locked = false := (locked_eq_false_iff s).2 ⟨hb, hv⟩
    have hw : ∀ p v, (.next (writeParamOp s p v) : Host.Outcome State Fault Refusal) =
        .next { setParam s p v with rsp := ⟨false, 0#32⟩ } := fun p v => congrArg _ (writeParamOp_unlocked hl p v)
    exact ⟨hw .sysclkHz, exec_wrClkdiv_unlocked hl, hw .freqHz, hw .pwUs, hw .psUs⟩
  · have hl : s.locked = true := (locked_eq_true_iff s).2 h
    have hw : ∀ p v, (.next (writeParamOp s p v) : Host.Outcome State Fault Refusal) =
        .next { s with ign := true, rsp := ⟨false, 0#32⟩ } := fun p v => congrArg _ (writeParamOp_locked hl p v)
    exact ⟨hw .sysclkHz, fun q => hw .clkdiv (dividerWord q), hw .freqHz, hw .pwUs, hw .psUs⟩

/-- Settles O18: the writes decode by their offsets, and the other offsets name no register; each operation is
`raiseBusError`. -/
theorem illegalRequestsAnswerBusError : Obligations.IllegalRequestsAnswerBusError := by
  refine ⟨fun v => ⟨decode_write _ v, decode_write _ v, decode_write _ v, decode_write _ v, decode_write _ v⟩,
    fun b a v h => ?_, fun s => ?_⟩
  · have hn : Reg.ofAddr a = none := (ofAddr_eq_none_iff a).2 ((isBusErrAddr_iff a).2 h)
    exact ⟨_, decode_of_ofAddr_none hn b v⟩
  · have hbus : (.next (raiseBusError s) : Host.Outcome State Fault Refusal) = .next { s with rsp := ⟨true, 0#32⟩ } :=
      congrArg _ (raiseBusError_eq s)
    exact ⟨fun _ => hbus, fun _ => hbus, fun _ => hbus, fun _ => hbus, fun _ => hbus, fun _ _ _ => hbus⟩

end Machine

end Sys2Proof
end

section
/-! SUPPORT. The commands, writes to CMD (spec/41_commands.md R110 to R114). -/

namespace Sys2Proof

/-! ## The code of a command (R110) -/

/-- The operation of a write to CMD is that of its code, the whole of DATA. -/
theorem decode_write_cmd (v : Word) : decode (mkReq true Reg.cmd.offset v) = decodeCommand v := by
  rw [decode_write, decodeWrite_cmd]

theorem decode_write_cmd_reserved {v : Word} (h0 : v ≠ 0#32) (h1 : v ≠ 1#32) (h2 : v ≠ 2#32) :
    decode (mkReq true Reg.cmd.offset v) = .cmdRsvd v := by
  rw [decode_write_cmd, decodeCommand_reserved h0 h1 h2]

theorem mnemonic_decodeCommand_notMem_busErrors (v : Word) : (decodeCommand v).mnemonic ∉ busErrorMnemonics := by
  unfold decodeCommand
  split_ifs <;> simp [Instr.mnemonic, busErrorMnemonics]

namespace Machine

/-! ## The response and the flags of a command -/

/-- A command reads no register and is no bus error, so it answers (0, 0) (R110). -/
theorem responseOf_decodeCommand (s : State) (v : Word) : responseOf s (decodeCommand v) = ⟨false, 0#32⟩ := by
  rw [responseOf_of_no_read (readTarget_decodeCommand v), decide_eq_false (mnemonic_decodeCommand_notMem_busErrors v)]

/-- No request raises a configuration error: it leaves ERR and ERRCODE or, accepted as START or CLEAR, clears both. -/
theorem exec_keeps_or_clears_err {i : Instr} {s t : State} (h : exec i s = .next t) :
    (t.err = s.err ∧ t.errcode = s.errcode) ∨ (t.err = false ∧ t.errcode = 0#4) := by
  rcases exec_result_cases h with ⟨-, -, rfl⟩ | ⟨-, -, rfl⟩ | ⟨-, -, ⟨-, -, -, herr, hcode⟩, -⟩
  · exact .inr ⟨rfl, rfl⟩
  · exact .inr ⟨rfl, rfl⟩
  · exact .inl ⟨herr, hcode⟩

/-! ## CLEAR (R113) -/

/-- The only request that takes VALID from 1 to 0 is CLEAR. -/
theorem eq_cmdClear_of_valid_released {i : Instr} {s t : State} (h : exec i s = .next t) (hs : s.valid = true)
    (ht : t.valid = false) : i = .cmdClear := by
  rcases exec_result_cases h with ⟨-, hl, -⟩ | ⟨hi, -, -⟩ | ⟨-, -, ⟨-, -, hv, -, -⟩, -⟩
  · obtain ⟨-, hnv⟩ := (locked_eq_false_iff s).1 hl
    simp [hs] at hnv
  · exact hi
  · simp [hv, hs] at ht

/-- The only request that takes IGN from 1 to 0 is CLEAR. -/
theorem eq_cmdClear_of_ign_cleared {i : Instr} {s t : State} (h : exec i s = .next t) (hs : s.ign = true)
    (ht : t.ign = false) : i = .cmdClear := by
  by_contra hi
  have hset : t.ign = true := (exec_ign_iff h).2 (.inr ⟨hs, fun hc => hi hc.1⟩)
  simp [ht] at hset

/-- ENG.COMPLETE sets VALID on success and leaves it on an error. -/
theorem engComplete_valid_of_valid (d : Config.IdleDomain) {s : State} (hv : s.valid = true) :
    (engComplete d s).valid = true := by
  cases hc : s.calcNow d with
  | ok c => rw [engComplete_of_ok hc]
  | error e => rw [engComplete_of_error hc, hv]

/-- What an accepted CLEAR leaves is the reset state but for the parameters. -/
theorem clear_eq_reset_of_not_busy {s : State} (hb : s.busy = false) :
    (setCounts s.clearFlags 0#32 0#32 0#32 0#32).respondDone =
      { State.reset with sysclkHz := s.sysclkHz, clkdiv := s.clkdiv, freqHz := s.freqHz, pwUs := s.pwUs,
                         psUs := s.psUs, schedule := s.schedule } := by
  cases s
  cases hb
  rfl

/-! ## The statements -/

/-- Settles O20: the code by `decode_write_cmd`, the response by `responseOf_decodeCommand`; ERR and ERRCODE are left or
cleared, as by every request. -/
theorem commandsAnswerZero : Obligations.CommandsAnswerZero := by
  refine fun v => ⟨decode_write_cmd v, fun s => ?_⟩
  obtain ⟨t, ht, hr⟩ := exec_response (decodeCommand v) s
  refine ⟨t, (congrArg (exec · s) (decode_write_cmd v)).trans ht, hr.trans (responseOf_decodeCommand s v), ?_⟩
  rcases exec_keeps_or_clears_err ht with ⟨herr, hcode⟩ | ⟨herr, hcode⟩
  · exact ⟨fun h => herr ▸ h, .inl hcode⟩
  · exact ⟨fun h => by simp [herr] at h, .inr hcode⟩

/-- Settles O23: the effect by `exec_cmdClear_accepted` and `exec_of_ignored`; no other request and no ENG.COMPLETE
releases VALID or IGN; STATUS and the outputs are those of the reset state. -/
theorem commandClear : Obligations.CommandClear := by
  refine ⟨decode_write_cmd 2#32, fun s hb => exec_cmdClear_accepted hb,
    fun s hb => exec_of_ignored (.inr (.inl ⟨rfl, hb⟩)), fun i s t h hrel => ?_,
    fun s => ⟨engComplete_valid_of_valid .cyc, engComplete_ign .cyc s⟩, fun s t hb h => ?_⟩
  · rcases hrel with ⟨hs, ht⟩ | ⟨hs, ht⟩
    · exact eq_cmdClear_of_valid_released h hs ht
    · exact eq_cmdClear_of_ign_cleared h hs ht
  · rw [exec_cmdClear_accepted hb, clear_eq_reset_of_not_busy hb] at h
    injection h with h
    subst h
    exact ⟨statusWord_eq_ofNat _ 0 (by simp [State.reset]), rfl, rfl⟩

/-- Settles O21: NOP only answers; START and CLEAR are ignored while BUSY, a reserved command always. -/
theorem commandNopDoesNothing : Obligations.CommandNopDoesNothing := by
  refine ⟨decode_write_cmd 0#32, fun s => rfl, fun s => ?_⟩
  have hstart : Ignored .cmdStart { s with busy := true } := ignored_of_busy rfl (by simp [Instr.mnemonic])
  have hclear : Ignored .cmdClear { s with busy := true } := ignored_of_busy rfl (by simp [Instr.mnemonic])
  exact ⟨_, _, _, exec_of_ignored hstart, rfl, exec_of_ignored hclear, rfl, exec_of_mnemonic_rsvd rfl s, rfl⟩

/-- Settles O24: a code other than 0, 1, 2 is reserved, and a reserved command is ignored in every state. -/
theorem reservedCommandOnlySetsIgn : Obligations.ReservedCommandOnlySetsIgn := by
  refine ⟨fun v => decode_write_cmd_reserved, fun v s => exec_of_mnemonic_rsvd rfl s,
    decode_write_cmd_reserved (v := 3#32) (by decide) (by decide) (by decide),
    decode_write_cmd_reserved (v := 0x101#32) (by decide) (by decide) (by decide),
    decode_write_cmd_reserved (v := 0x80000001#32) (by decide) (by decide) (by decide), fun t h => ?_⟩
  injection h with h
  subst h
  exact statusWord_eq_ofNat _ 0x10 rfl

end Machine

end Sys2Proof
end

section
/-! SUPPORT. The calculation has no input but the parameters: the result of ENG.COMPLETE, and a calculation made again
after a CLEAR (spec/42_calculation.md R120, R131). -/

namespace Sys2Proof.Machine

/-! ## ENG.COMPLETE as a function of the parameters -/

/-- CALC reads the parameter registers alone (R120, R131). -/
theorem calcNow_of_sameParams (d : Config.IdleDomain) {s t : State} (h : State.sameParams s t) :
    t.calcNow d = s.calcNow d := by
  obtain ⟨hsys, hdiv, hfreq, hpw, hps⟩ := h
  rw [State.calcNow, State.calcNow, State.divider, State.divider, hsys, hdiv, hfreq, hpw, hps]

/-- No result is recorded: VALID, ERR and ERRCODE are clear and the counts are 0. -/
structure NoResult (s : State) : Prop where
  valid : s.valid = false
  err : s.err = false
  errcode : s.errcode = 0#4
  countA : s.countA = 0#32
  countB : s.countB = 0#32
  countC : s.countC = 0#32
  countD : s.countD = 0#32

/-- A busy state with the invariants of R30 has no result yet. -/
theorem StateInv.noResult_of_busy {s : State} (h : StateInv s) (hb : s.busy = true) : NoResult s := by
  obtain ⟨-, hv, he, hcode⟩ := h.busy_clear hb
  obtain ⟨hA, hB, hC, hD⟩ := h.counts_zero hv
  exact ⟨hv, he, hcode, hA, hB, hC, hD⟩

/-- What ENG.COMPLETE records over no result is determined by the parameters. -/
theorem engComplete_of_sameParams (d : Config.IdleDomain) {s t : State} (hs : NoResult s) (ht : NoResult t)
    (h : State.sameParams s t) :
    State.sameCounts (engComplete d s) (engComplete d t) ∧ State.sameOutcome (engComplete d s) (engComplete d t) := by
  have hcalc := calcNow_of_sameParams d h
  cases hr : s.calcNow d with
  | ok c =>
    rw [engComplete_of_ok hr, engComplete_of_ok (hcalc.trans hr)]
    exact ⟨⟨rfl, rfl, rfl, rfl⟩, rfl, rfl, rfl, ht.err.trans hs.err.symm, ht.errcode.trans hs.errcode.symm⟩
  | error e =>
    rw [engComplete_of_error hr, engComplete_of_error (hcalc.trans hr)]
    exact ⟨⟨ht.countA.trans hs.countA.symm, ht.countB.trans hs.countB.symm, ht.countC.trans hs.countC.symm,
      ht.countD.trans hs.countD.symm⟩, rfl, rfl, ht.valid.trans hs.valid.symm, rfl, rfl⟩

/-- The cycle of a completion is ENG.COMPLETE of the state before it, but for IGN, the response and the schedule: the
request of the same cycle found BUSY = 1 (R163 b). -/
theorem step_of_completes {s t : State} (hc : s.completes = true) (h : step s = .next t) :
    ∃ i r, t = { engComplete .cyc s with ign := i, rsp := r, schedule := s.schedule.tail } := by
  obtain ⟨hr, -, hb⟩ := (completes_eq_true_iff s).1 hc
  rcases step_turn_cases h with ⟨hr', -⟩ | ⟨-, u, hu, rfl⟩ | ⟨-, hc', -⟩
  · simp [hr] at hr'
  · obtain ⟨hu, -⟩ := requestLeaves_of_busy hb hu
    have hp : State.sameParams s u := by
      rw [hu]
      exact ⟨rfl, rfl, rfl, rfl, rfl⟩
    have hcalc := calcNow_of_sameParams .cyc hp
    refine ⟨u.ign, u.rsp, ?_⟩
    cases hs : s.calcNow .cyc with
    | ok c => rw [engComplete_of_ok (hcalc.trans hs), engComplete_of_ok hs, hu]; rfl
    | error e => rw [engComplete_of_error (hcalc.trans hs), engComplete_of_error hs, hu]; rfl
  · simp [hc] at hc'

/-! ## START, completion, CLEAR, START, completion -/

/-- The step of a scheduled cycle without `rst`: its request, and then the engine's turn. -/
theorem step_of_schedule_cons {s t : State} {c : CycleInput} {cs : List CycleInput} (hs : s.schedule = c :: cs)
    (hr : c.rst = false) (h : performRequest { s with schedule := cs } c.req = .next t) :
    step s = .next (engineTurn .cyc (c.complete && s.busy) t) := by
  have hn : s.nextCycle = c := by simp [State.nextCycle, hs]
  have ha : s.advance = { s with schedule := cs } := by simp [State.advance, hs]
  rw [step, stepWith, hn, ha]
  exact clockCycle_of_request hr h

/-- The state that an accepted START leaves, with what is scheduled after it (R112). -/
def State.started (s : State) (cs : List CycleInput) : State := { s with schedule := cs }.startFlags.respondDone

/-- The state that an accepted CLEAR leaves, with what is scheduled after it (R113). -/
def State.cleared (s : State) (cs : List CycleInput) : State :=
  (setCounts { s with schedule := cs }.clearFlags 0#32 0#32 0#32 0#32).respondDone

/-- Neither a CLEAR nor a START writes a parameter. -/
theorem sameParams_started_cleared (s : State) (cs cs' : List CycleInput) :
    State.sameParams s ((s.cleared cs).started cs') :=
  ⟨rfl, rfl, rfl, rfl, rfl⟩

theorem sameParams_engComplete (d : Config.IdleDomain) (s : State) : State.sameParams s (engComplete d s) := by
  simp [State.sameParams]

/-- Where the invariants hold and VALID = 0, a START leaves no result: the counts were 0, and it clears the error. -/
theorem StateInv.noResult_started {s : State} (h : StateInv s) (hv : s.valid = false) (cs : List CycleInput) :
    NoResult (s.started cs) := by
  obtain ⟨hA, hB, hC, hD⟩ := h.counts_zero hv
  exact ⟨hv, rfl, rfl, hA, hB, hC, hD⟩

/-- A START after a CLEAR leaves no result, whatever was there before. -/
theorem noResult_started_cleared (s : State) (cs cs' : List CycleInput) : NoResult ((s.cleared cs).started cs') :=
  ⟨rfl, rfl, rfl, rfl, rfl, rfl, rfl⟩

/-- The first two steps of a run that begins with a START and its completion, as in `run_startThenComplete`. -/
theorem run_startThenComplete_append (k : Nat) {s : State} {cs : List CycleInput} (hl : s.locked = false)
    (hs : s.schedule = startThenComplete ++ cs) : run (k + 2) s = run k (engComplete .cyc (s.started cs)) := by
  have hstart : step s = .next (s.started (CycleInput.silent :: cs)) :=
    step_of_schedule_cons hs rfl (exec_cmdStart_accepted (s := { s with schedule := CycleInput.silent :: cs }) hl)
  have hcomplete : step (s.started (CycleInput.silent :: cs)) = .next (engComplete .cyc (s.started cs)) :=
    step_of_schedule_cons (c := CycleInput.silent) (cs := cs) rfl rfl rfl
  rw [run_succ (k + 1) hstart, run_succ k hcomplete]

/-- The cycle that presents CLEAR. -/
def clearCycle : CycleInput := CycleInput.ofRequest ⟨true, Reg.cmd.offset, 2#32⟩

/-- A scheduled CLEAR while not BUSY (R113). -/
theorem step_clearCycle {s : State} {cs : List CycleInput} (hb : s.busy = false) (hs : s.schedule = clearCycle :: cs) :
    step s = .next (s.cleared cs) :=
  step_of_schedule_cons hs rfl (exec_cmdClear_accepted (s := { s with schedule := cs }) hb)

/-- A run of START, completion, CLEAR, START, completion from an unlocked state. -/
theorem run_start_clear_start {s : State} (hl : s.locked = false)
    (hs : s.schedule = startThenComplete ++ clearCycle :: startThenComplete) :
    run 5 s = .next (engComplete .cyc
      (((engComplete .cyc (s.started (clearCycle :: startThenComplete))).cleared startThenComplete).started [])) := by
  rw [run_startThenComplete_append 3 hl hs, run_succ 2 (step_clearCycle rfl (engComplete_schedule _ _))]
  exact run_startThenComplete_append 0 ((locked_eq_false_iff _).2 ⟨rfl, rfl⟩) rfl

/-! ## The statement -/

/-- Settles O42: both completions are ENG.COMPLETE over no result, where `engComplete_of_sameParams` decides; neither the
first completion nor the CLEAR changes a parameter. -/
theorem equalParametersEqualResults : Obligations.EqualParametersEqualResults := by
  refine ⟨fun s s' t t' hi hi' hc hc' hp h h' => ?_, fun s hi hb hv hs => ?_⟩
  · obtain ⟨-, -, hb⟩ := (completes_eq_true_iff s).1 hc
    obtain ⟨-, -, hb'⟩ := (completes_eq_true_iff s').1 hc'
    obtain ⟨i, r, rfl⟩ := step_of_completes hc h
    obtain ⟨i', r', rfl⟩ := step_of_completes hc' h'
    exact engComplete_of_sameParams .cyc (hi.noResult_of_busy hb) (hi'.noResult_of_busy hb') hp
  · have hl : s.locked = false := (locked_eq_false_iff s).2 ⟨hb, hv⟩
    refine ⟨_, _, run_startThenComplete_append 0 hl hs, run_start_clear_start hl hs, ?_⟩
    refine engComplete_of_sameParams .cyc (hi.noResult_started hv _) (noResult_started_cleared _ _ _) ?_
    exact sameParams_trans (sameParams_engComplete .cyc _) (sameParams_started_cleared _ _ _)

end Sys2Proof.Machine
end

section
/-! SUPPORT. The causes of the configuration errors, the error state, and the events that fall in one cycle
(spec/60_exceptions.md R150 to R163). -/

namespace Sys2Proof.Machine

/-! ## The causes, in exact arithmetic (R153, R154) -/

/-- The exact period in microseconds is no longer than the requested durations: the cause of TIMING. -/
theorem period_le_requested_iff {F : ℕ} (hF : F ≠ 0) (PW PS : ℕ) :
    (1000000 : ℚ) / F ≤ 2 * PW + PS ↔ 1000000 ≤ (2 * PW + PS) * F := by
  have hpos : (0 : ℚ) < F := by exact_mod_cast Nat.pos_of_ne_zero hF
  rw [div_le_iff₀ hpos]
  exact_mod_cast Iff.rfl

/-- P_raw is the floor of the exact period in cycles, at the exact clock frequency of S / (Q / 256) hertz (R124). -/
theorem floor_period (S Q F : ℕ) : ⌊((S : ℚ) / (Q / 256)) / F⌋ = (periodRaw S Q F : ℤ) := by
  have hquot : ((S : ℚ) / (Q / 256)) / F = ((S * 256 : ℕ) : ℚ) / ((Q * F : ℕ) : ℚ) := by
    push_cast
    rw [div_div_eq_mul_div, div_div]
  rw [hquot, Rat.floor_natCast_div_natCast]
  exact (Int.natCast_ediv _ _).symm

/-! ## ERR and ERRCODE -/

/-- The cause of a configuration error, said of the parameter registers (R151 to R154). -/
def ConfigError.HoldsOf (s : State) : ConfigError → Prop
  | .div0 => s.clkdiv.extractLsb' 0 24 = 0#24
  | .freq0 => s.freqHz = 0#32
  | .timing => 1000000 ≤ (2 * s.pwUs.toNat + s.psUs.toNat) * s.freqHz.toNat
  | .range => 4294967295 < s.sysclkHz.toNat * 256 / ((s.clkdiv.extractLsb' 0 24).toNat * s.freqHz.toNat)

/-- An error that CALC returns has its cause in the registers. -/
theorem holdsOf_of_calcNow {d : Config.IdleDomain} {s : State} {e : ConfigError} (h : s.calcNow d = .error e) :
    e.HoldsOf s := by
  have hdiv : s.divider = s.clkdiv.extractLsb' 0 24 := dividerField_eq_extract s.clkdiv
  have hcause := (calcDelay_eq_error_iff _ _ _ _ _ _ _).1 h
  rw [hdiv] at hcause
  cases e with
  | div0 => exact BitVec.eq_of_toNat_eq hcause
  | freq0 => exact BitVec.eq_of_toNat_eq hcause.2
  | timing => exact hcause.2.2
  | range => exact hcause.2.2.2

/-- All that a step does to ERR and ERRCODE: they stay, both are cleared, or ENG.COMPLETE records an error of CALC. -/
theorem step_err_cases {s t : State} (h : step s = .next t) :
    (t.err = s.err ∧ t.errcode = s.errcode)
    ∨ (t.err = false ∧ t.errcode = 0#4)
    ∨ (s.completes = true ∧ ∃ e, s.calcNow .cyc = .error e ∧ t.err = true ∧ t.errcode = e.code) := by
  rcases step_turn_cases h with ⟨-, rfl⟩ | ⟨hc, -⟩ | ⟨-, -, hu⟩
  · exact .inr (.inl ⟨rfl, rfl⟩)
  · obtain ⟨i, r, rfl⟩ := step_of_completes hc h
    cases hs : s.calcNow .cyc with
    | ok c =>
      rw [engComplete_of_ok hs]
      exact .inl ⟨rfl, rfl⟩
    | error e =>
      rw [engComplete_of_error hs]
      exact .inr (.inr ⟨hc, e, rfl, rfl, rfl⟩)
  · rcases requestLeaves_result_cases hu with ⟨-, rfl⟩ | ⟨-, rfl⟩ | ⟨-, -, ⟨-, -, -, herr, hcode⟩, -⟩
    · exact .inr (.inl ⟨rfl, rfl⟩)
    · exact .inr (.inl ⟨rfl, rfl⟩)
    · exact .inl ⟨herr, hcode⟩

theorem ConfigError.code_mem (e : ConfigError) : e.code ∈ [0#4, 1#4, 2#4, 3#4, 4#4] := by
  cases e <;> simp [ConfigError.code]

theorem StateInv.errcode_mem {s : State} (h : StateInv s) : s.errcode ∈ [0#4, 1#4, 2#4, 3#4, 4#4] := by
  rcases h.result_cases with ⟨hc, -⟩ | ⟨hc, -⟩ | ⟨hc, -⟩
  · simp [hc]
  · simp [hc]
  · exact List.mem_cons_of_mem _ hc

/-! ## The error state (R150, R161) -/

/-- The state in which ENG.COMPLETE leaves the machine when CALC returns an error. -/
theorem step_of_completes_error {s t : State} {e : ConfigError} (hc : s.completes = true)
    (he : s.calcNow .cyc = .error e) (h : step s = .next t) :
    ∃ i r, t = { s with err := true, errcode := e.code, busy := false, done := true, ign := i, rsp := r,
                        schedule := s.schedule.tail } := by
  obtain ⟨i, r, rfl⟩ := step_of_completes hc h
  exact ⟨i, r, by rw [engComplete_of_error he]⟩

/-- Where the invariants hold, ERR = 1 means the engine is done, not BUSY, and without a valid result. -/
theorem StateInv.flags_of_err {s : State} (h : StateInv s) (he : s.err = true) :
    s.valid = false ∧ s.done = true ∧ s.busy = false := by
  rcases h.result_cases with ⟨-, he', -⟩ | ⟨-, he', -⟩ | ⟨-, -, hflags⟩
  · simp [he] at he'
  · simp [he] at he'
  · exact hflags

/-! ## A request while BUSY, or under reset (R163) -/

/-- An operation answers one state. -/
theorem eq_of_exec {i : Instr} {s t u : State} (ht : exec i s = .next t) (hu : exec i s = .next u) : t = u :=
  Host.Outcome.next.inj (ht.symm.trans hu)

/-- While BUSY no request touches the results, the flags but IGN, or a parameter. -/
theorem exec_keepsResults_of_busy {i : Instr} {s t : State} (hb : s.busy = true) (h : exec i s = .next t) :
    KeepsResults s t := by
  rcases exec_result_cases h with ⟨-, hl, -⟩ | ⟨-, hb', -⟩ | ⟨-, -, hk⟩
  · simp [((locked_eq_false_iff s).1 hl).1] at hb
  · simp [hb] at hb'
  · exact hk

/-- A read request answers what `memRead` shows at its offset, mapped or not, and changes nothing. -/
theorem exec_read_memRead (a : Addr) (v : Word) (s : State) :
    exec (decode (mkReq false a v)) s = .next { s with rsp := memRead s a } := by
  cases h : Reg.ofAddr a with
  | none =>
    have hm : memRead s a = ⟨true, 0#32⟩ := by simp [memRead, h]
    rw [decode_of_ofAddr_none h, hm]
    rfl
  | some r => rw [exec_decode_read h, memRead_of_ofAddr h, readOp_eq]

/-- While BUSY a write to a parameter register is ignored. -/
theorem ignored_paramWrite_of_busy {s : State} (hb : s.busy = true) {a : Addr}
    (ha : a ∈ [0x00#6, 0x04#6, 0x08#6, 0x0C#6, 0x10#6]) (v : Word) : Ignored (decode (mkReq true a v)) s := by
  have hcmd : a ≠ Reg.cmd.offset := by rintro rfl; simp [Reg.offset] at ha
  apply ignored_of_busy hb
  rw [decode_write, mnemonic_decodeWrite_data_irrelevant hcmd v 0#32]
  revert a
  decide

/-- While BUSY a START and a CLEAR are ignored. -/
theorem ignored_command_of_busy {s : State} (hb : s.busy = true) {v : Word} (hv : v = 1#32 ∨ v = 2#32) :
    Ignored (decode (mkReq true Reg.cmd.offset v)) s := by
  apply ignored_of_busy hb
  rw [decode_write_cmd]
  rcases hv with rfl | rfl <;> simp [decodeCommand, Instr.mnemonic]

/-- The step of a scheduled cycle with `rst`. -/
theorem step_of_schedule_rst {s : State} {c : CycleInput} {cs : List CycleInput} (hs : s.schedule = c :: cs)
    (hr : c.rst = true) : step s = .next { State.reset with schedule := cs } := by
  have hn : s.nextCycle = c := by simp [State.nextCycle, hs]
  have ha : s.advance = { s with schedule := cs } := by simp [State.advance, hs]
  rw [step, stepWith, hn, ha]
  exact clockCycle_rst _ hr _

/-! ## The statements -/

/-- Settles O19: ERR in the response names a bus error, which changes nothing; IGN newly set names an ignored request,
which changes nothing else. -/
theorem busErrorOrIgnoredNeverBoth : Obligations.BusErrorOrIgnoredNeverBoth := by
  intro i s
  obtain ⟨t, ht, hrsp⟩ := exec_response i s
  have hignored : Ignored i s → t = { s with ign := true, rsp := ⟨false, 0#32⟩ } :=
    fun hI => eq_of_exec ht (exec_of_ignored hI)
  refine ⟨t, ht, fun herr => ?_, hignored, fun hs hset => ?_⟩
  · have hbus : i.mnemonic ∈ busErrorMnemonics := (responseOf_err_iff s i).1 (hrsp ▸ herr)
    exact eq_of_exec ht (exec_busError hbus s)
  · rcases (exec_ign_iff ht).1 hset with hI | ⟨hs', -⟩
    · exact hignored hI
    · simp [hs] at hs'

/-- Settles O25: the branches of CALC, with the tests of TIMING and RANGE said of the exact rationals. -/
theorem calcReportsFirstCause : Obligations.CalcReportsFirstCause := by
  intro d S Q F PW PS
  have hcause := calcDelay_eq_error_iff d S Q F PW PS
  refine ⟨hcause .div0, hcause .freq0, (hcause .timing).trans ?_, (hcause .range).trans ?_, ?_⟩
  · exact and_congr_right fun _ => and_congr_right fun hF => (period_le_requested_iff hF PW PS).symm
  · refine and_congr_right fun _ => and_congr_right fun hF => ?_
    rw [period_le_requested_iff hF, floor_period, not_le]
    exact_mod_cast Iff.rfl
  · simp only [calcDelay_eq_ok_iff, exists_and_left, exists_eq, and_true]
    refine and_congr_right fun _ => and_congr_right fun hF => ?_
    rw [period_le_requested_iff hF, floor_period, not_le]
    exact_mod_cast Iff.rfl

/-- Settles O37: only the third case of `step_err_cases` sets ERR; the state it leaves is that of
`step_of_completes_error`, over a busy state that had no result. -/
theorem configErrorEntersErrorState : Obligations.ConfigErrorEntersErrorState := by
  intro s t hi h
  refine ⟨fun hs ht => ?_, fun hc e he => ?_, ?_⟩
  · rcases step_err_cases h with ⟨herr, -⟩ | ⟨herr, -⟩ | ⟨hc, e, he, -, hcode⟩
    · simp [herr, hs] at ht
    · simp [herr] at ht
    · exact ⟨hc, e, he, hcode⟩
  · obtain ⟨-, -, hb⟩ := (completes_eq_true_iff s).1 hc
    have hno := hi.noResult_of_busy hb
    obtain ⟨i, r, rfl⟩ := step_of_completes_error hc he h
    refine ⟨rfl, rfl, hno.valid, rfl, ?_, ?_, ?_, ⟨rfl, rfl, rfl, rfl, rfl⟩, ?_⟩
    · cases e <;> rfl
    · have hcause := holdsOf_of_calcNow he
      cases e <;> exact hcause
    · simp [State.sideband, hno.countA, hno.countB, hno.countC, hno.countD, hno.valid]
    · exact (locked_eq_false_iff _).2 ⟨rfl, hno.valid⟩
  · rcases step_err_cases h with ⟨-, hcode⟩ | ⟨-, hcode⟩ | ⟨-, e, -, -, hcode⟩
    · exact hcode ▸ hi.errcode_mem
    · simp [hcode]
    · exact hcode ▸ e.code_mem

/-- Settles O38: in the error state the engine has nothing to complete and nothing is locked, so a START and a CLEAR are
accepted, and every other request keeps the results. -/
theorem errorStateIsLeftOnlySo : Obligations.ErrorStateIsLeftOnlySo := by
  intro s t hi he h
  obtain ⟨hv, hd, hb⟩ := hi.flags_of_err he
  have hstart : s.acceptsStart ↔ s.nextOp = some .cmdStart := by simp [acceptsStart_iff, hb, hv]
  have hclear : s.acceptsClear ↔ s.nextOp = some .cmdClear := by simp [State.acceptsClear, hb]
  rw [← hstart, ← hclear]
  rcases step_turn_cases h with ⟨hr, rfl⟩ | ⟨hc, -⟩ | ⟨hr, -, hu⟩
  · have hns : ¬ s.acceptsStart := by simp [hstart, nextOp_of_rst hr]
    exact ⟨fun _ => ⟨rfl, rfl, rfl, iff_of_false Bool.false_ne_true hns⟩, fun hn => absurd (.inl hr) hn⟩
  · simp [completes_of_not_busy hb] at hc
  · rcases requestLeaves_result_cases hu with ⟨hs, rfl⟩ | ⟨hcl, rfl⟩ | ⟨hs, hcl, ⟨hbusy, hdone, -, herr, hcode⟩, -⟩
    · exact ⟨fun _ => ⟨rfl, rfl, rfl, iff_of_true rfl hs⟩, fun hn => absurd (.inr (.inl hs)) hn⟩
    · have hns : ¬ s.acceptsStart := by simp [hstart, hcl.1]
      exact ⟨fun _ => ⟨rfl, rfl, rfl, by simp [hb, hns]⟩, fun hn => absurd (.inr (.inr hcl)) hn⟩
    · exact ⟨by simp [hr, hs, hcl], fun _ => ⟨herr.trans he, hcode, hdone.trans hd, hbusy.trans hb⟩⟩

/-- Settles O39: the cycle with `rst` by `step_of_schedule_rst`; the other is the request, performed on a busy state and so
without effect on the results, and then ENG.COMPLETE. -/
theorem simultaneousEvents : Obligations.SimultaneousEvents := by
  refine ⟨fun s c rest hs hr => step_of_schedule_rst hs hr, fun s c rest ⟨w, a, v⟩ hs hr hq hc hb => ?_⟩
  obtain ⟨t, ht, -⟩ := exec_response (decode (mkReq w a v)) { s with schedule := rest }
  have hstep : step s = .next (engComplete .cyc t) := by
    have hperform : performRequest { s with schedule := rest } c.req = .next t := by rw [hq]; exact ht
    have hturn := step_of_schedule_cons hs hr hperform
    rwa [hc, hb] at hturn
  obtain ⟨hout, hcounts, hparams⟩ := exec_keepsResults_of_busy (s := { s with schedule := rest }) hb ht
  refine ⟨t, ht, hstep, engComplete_rsp _ _, engComplete_busy _ _, hout.1.trans hb,
    hparams ((locked_eq_true_iff _).2 (.inl hb)), hcounts, hout, ?_, ?_, ?_⟩
  · rintro rfl
    exact eq_of_exec ht (exec_read_memRead a v _)
  · rintro rfl ha
    exact eq_of_exec ht (exec_of_ignored (ignored_paramWrite_of_busy hb ha v))
  · rintro rfl rfl hv
    exact eq_of_exec ht (exec_of_ignored (ignored_command_of_busy hb hv))

end Sys2Proof.Machine
end

section
/-! SUPPORT. Reset, and what a step without reset can change (spec/70_reset_and_hazards.md R170 to R172). -/

namespace Sys2Proof.Machine

/-! ## The writes to the parameter registers (R92) -/

/-- The operation that writes a value to a parameter register; of a value for CLKDIV it carries bits 23:0 (R63 a). -/
def ParamReg.write : ParamReg → Word → Instr
  | .sysclkHz, v => .wrSysclkHz v
  | .clkdiv, v => .wrClkdiv (dividerField v)
  | .freqHz, v => .wrFreqHz v
  | .pwUs, v => .wrPwUs v
  | .psUs, v => .wrPsUs v

/-- A parameter write, ignored or stored, leaves the parameters or gives the one its value. -/
theorem writeParamOp_params_cases (s : State) (p : ParamReg) (v : Word) :
    State.sameParams s (writeParamOp s p v) ∨ State.sameParams (setParam s p v) (writeParamOp s p v) := by
  cases hl : s.locked with
  | true => rw [writeParamOp_locked hl]; exact .inl ⟨rfl, rfl, rfl, rfl, rfl⟩
  | false => rw [writeParamOp_unlocked hl]; exact .inr ⟨rfl, rfl, rfl, rfl, rfl⟩

/-- All that a request does to the parameters: they stay, or it is a write and one takes its value. -/
theorem exec_params_cases {i : Instr} {s t : State} (h : exec i s = .next t) :
    State.sameParams s t ∨ ∃ p v, i = p.write v ∧ State.sameParams (setParam s p v) t := by
  cases i <;> injection h with h <;> subst h
  case wrSysclkHz | wrClkdiv | wrFreqHz | wrPwUs | wrPsUs =>
    exact (writeParamOp_params_cases s _ _).imp_right fun hp => ⟨_, _, by simp [ParamReg.write], hp⟩
  case cmdStart | cmdClear => left; split <;> exact ⟨rfl, rfl, rfl, rfl, rfl⟩
  all_goals exact .inl ⟨rfl, rfl, rfl, rfl, rfl⟩

/-- All that a step without reset does to the parameters, whether or not the engine completes in it (R31). -/
theorem step_params_cases {s t : State} (h : step s = .next t) (hr : s.nextCycle.rst = false) :
    State.sameParams s t ∨ ∃ p v, s.nextOp = some (p.write v) ∧ State.sameParams (setParam s.advance p v) t := by
  rcases step_cases h with ⟨hr', -⟩ | ⟨-, u, hu, rfl⟩
  · simp [hr] at hr'
  have hturn : State.sameParams u (engineTurn .cyc s.completes u) := by
    cases s.completes
    · exact ⟨rfl, rfl, rfl, rfl, rfl⟩
    · exact sameParams_engComplete .cyc u
  unfold requestLeaves at hu
  cases ho : s.nextOp with
  | none =>
    rw [ho] at hu
    subst hu
    exact .inl hturn
  | some i =>
    rw [ho] at hu
    rcases exec_params_cases hu with hp | ⟨p, v, rfl, hp⟩
    · exact .inl (sameParams_trans (s := s.advance) hp hturn)
    · exact .inr ⟨p, v, rfl, sameParams_trans hp hturn⟩

/-- Without reset a parameter changes only by the write to it, to the value written (R171). -/
theorem step_changes_params_only_by_write {s t : State} (h : step s = .next t) (hr : s.nextCycle.rst = false) :
    (t.sysclkHz ≠ s.sysclkHz → ∃ v, s.nextOp = some (.wrSysclkHz v) ∧ t.sysclkHz = v)
    ∧ (t.clkdiv ≠ s.clkdiv → ∃ q, s.nextOp = some (.wrClkdiv q) ∧ t.clkdiv = 0#8 ++ q)
    ∧ (t.freqHz ≠ s.freqHz → ∃ v, s.nextOp = some (.wrFreqHz v) ∧ t.freqHz = v)
    ∧ (t.pwUs ≠ s.pwUs → ∃ v, s.nextOp = some (.wrPwUs v) ∧ t.pwUs = v)
    ∧ (t.psUs ≠ s.psUs → ∃ v, s.nextOp = some (.wrPsUs v) ∧ t.psUs = v) := by
  rcases step_params_cases h hr with ⟨hsys, hdiv, hfreq, hpw, hps⟩ | ⟨p, v, ho, hsys, hdiv, hfreq, hpw, hps⟩
  · exact ⟨absurd hsys, absurd hdiv, absurd hfreq, absurd hpw, absurd hps⟩
  · cases p
    case sysclkHz => exact ⟨fun _ => ⟨v, ho, hsys⟩, absurd hdiv, absurd hfreq, absurd hpw, absurd hps⟩
    case clkdiv =>
      have happ : t.clkdiv = 0#8 ++ dividerField v := hdiv.trans (dividerWord_eq_append _)
      exact ⟨absurd hsys, fun _ => ⟨_, ho, happ⟩, absurd hfreq, absurd hpw, absurd hps⟩
    case freqHz => exact ⟨absurd hsys, absurd hdiv, fun _ => ⟨v, ho, hfreq⟩, absurd hpw, absurd hps⟩
    case pwUs => exact ⟨absurd hsys, absurd hdiv, absurd hfreq, fun _ => ⟨v, ho, hpw⟩, absurd hps⟩
    case psUs => exact ⟨absurd hsys, absurd hdiv, absurd hfreq, absurd hpw, fun _ => ⟨v, ho, hps⟩⟩

/-! ## What only CLEAR clears (R113, R171) -/

/-- A step without reset clears VALID, where BUSY = 0, only by an accepted CLEAR. -/
theorem acceptsClear_of_valid_cleared {s t : State} (hv : s.valid = true) (hb : s.busy = false)
    (h : step s = .next t) (hr : s.nextCycle.rst = false) (ht : t.valid = false) : s.acceptsClear := by
  have hunlocked : t.locked = false := (locked_eq_false_iff t).2 ⟨step_busy_of_valid hv hb h, ht⟩
  rcases unlock_cases ((locked_eq_true_iff s).2 (.inr hv)) h hunlocked with hr' | ⟨hb', -⟩ | hc
  · simp [hr] at hr'
  · simp [hb] at hb'
  · exact hc

/-- A step without reset clears IGN only by an accepted CLEAR. -/
theorem acceptsClear_of_ign_cleared {s t : State} (hs : s.ign = true) (h : step s = .next t)
    (hr : s.nextCycle.rst = false) (ht : t.ign = false) : s.acceptsClear := by
  rcases step_cases h with ⟨hr', -⟩ | ⟨-, u, hu, rfl⟩
  · simp [hr] at hr'
  · by_contra hc
    have hset : u.ign = true := (requestLeaves_ign_iff hu).2 (.inr ⟨hs, hc⟩)
    simp [hset] at ht

/-- Where the invariants hold, a count that is not 0 belongs to a valid result. -/
theorem StateInv.valid_of_count_ne_zero {s : State} (h : StateInv s)
    (hne : s.countA ≠ 0#32 ∨ s.countB ≠ 0#32 ∨ s.countC ≠ 0#32 ∨ s.countD ≠ 0#32) : s.valid = true := by
  by_contra hv
  obtain ⟨hA, hB, hC, hD⟩ := h.counts_zero (Bool.eq_false_iff.2 hv)
  simp [hA, hB, hC, hD] at hne

theorem StateInv.busy_of_valid {s : State} (h : StateInv s) (hv : s.valid = true) : s.busy = false := by
  by_contra hb
  obtain ⟨-, hv', -, -⟩ := h.busy_clear (Bool.eq_true_of_not_eq_false hb)
  simp [hv] at hv'

/-- Where the invariants hold, a step without reset changes a count that is not 0 only by an accepted CLEAR. -/
theorem acceptsClear_of_counts_changed {s t : State} (hi : StateInv s) (h : step s = .next t)
    (hr : s.nextCycle.rst = false)
    (hne : s.countA ≠ 0#32 ∨ s.countB ≠ 0#32 ∨ s.countC ≠ 0#32 ∨ s.countD ≠ 0#32)
    (hch : ¬ State.sameCounts s t) : s.acceptsClear := by
  have hv := hi.valid_of_count_ne_zero hne
  have hb := hi.busy_of_valid hv
  refine acceptsClear_of_valid_cleared hv hb h hr ?_
  by_contra ht
  obtain ⟨-, hcounts⟩ := step_keeps_valid_results hv hb h (Bool.eq_true_of_not_eq_false ht)
  exact hch hcounts

/-! ## A cycle with reset, and a cycle with nothing in it (R170, R172) -/

/-- A step with `rst` leaves the reset state, whatever was requested or in flight. -/
theorem step_of_rst {s : State} (hr : s.nextCycle.rst = true) :
    step s = .next { State.reset with schedule := s.schedule.tail } :=
  clockCycle_rst Config.idleDomain hr s.advance

/-- While BUSY = 0, nothing but a START makes the engine busy. -/
theorem step_keeps_idle {s t : State} (hb : s.busy = false) (ho : s.nextOp ≠ some .cmdStart)
    (h : step s = .next t) : t.busy = false := by
  have hs : ¬ s.acceptsStart := fun ha => ho ha.1
  rw [← Bool.not_eq_true, step_busy_iff h]
  simp [hb, hs]

/-- While BUSY = 0, a cycle with neither reset nor request only takes the response back to (0, 0). -/
theorem step_of_idle_no_request {s t : State} (hb : s.busy = false) (hr : s.nextCycle.rst = false)
    (hq : s.nextCycle.req = none) (h : step s = .next t) : t = s.advance.respond false 0#32 := by
  have ho : s.nextOp = none := by simp [State.nextOp, hq]
  rcases step_turn_cases h with ⟨hr', -⟩ | ⟨hc, -⟩ | ⟨-, -, hu⟩
  · simp [hr] at hr'
  · simp [completes_of_not_busy hb] at hc
  · unfold requestLeaves at hu
    rwa [ho] at hu

/-! ## The statements -/

/-- Settles O45: the parameters by `step_changes_params_only_by_write`; what CLEAR clears by the three `acceptsClear`
lemmas; BUSY by `step_busy_iff`. -/
theorem onlyResetDoesWhatResetDoes : Obligations.OnlyResetDoesWhatResetDoes := by
  intro s t hi h hr
  obtain ⟨hsys, hdiv, hfreq, hpw, hps⟩ := step_changes_params_only_by_write h hr
  refine ⟨hsys, hdiv, hfreq, hpw, hps, fun hv ht => ?_, fun hs ht => ?_, fun hcount => ?_, fun hb ht => ?_⟩
  · exact (acceptsClear_of_valid_cleared hv (hi.busy_of_valid hv) h hr ht).1
  · exact (acceptsClear_of_ign_cleared hs h hr ht).1
  · have hchanged : ¬ State.sameCounts s t := by
      rintro ⟨hA, hB, hC, hD⟩
      simp [hA, hB, hC, hD] at hcount
    refine (acceptsClear_of_counts_changed hi h hr ?_ hchanged).1
    exact hcount.imp And.left (.imp And.left (.imp And.left And.left))
  · by_contra hc
    have hbusy : t.busy = true := (step_busy_iff h).2 ⟨hr, Bool.eq_false_iff.2 hc, .inl hb⟩
    simp [ht] at hbusy

/-- Settles O44: the cycle with `rst` by `step_of_rst`; with BUSY = 0 after a step, no completion is due. -/
theorem resetOverridesAndAbandons : Obligations.ResetOverridesAndAbandons := by
  refine ⟨fun s hr => step_of_rst hr, fun s t hr h => ?_, fun s t hb ho h => ?_,
    fun s t hb hr hq h => step_of_idle_no_request hb hr hq h⟩
  · rw [step_of_rst hr] at h
    injection h with h
    subst h
    exact ⟨rfl, rfl, completes_of_not_busy rfl⟩
  · have ht := step_keeps_idle hb ho h
    exact ⟨ht, completes_of_not_busy ht⟩

end Sys2Proof.Machine
end

section
/-! SUPPORT. Encode and decode agree: the operation of a canonical word, the canonical word of a request, and the worked
encodings (spec/30_encoding.md R60 to R72). -/

namespace Sys2Proof

/-! ## Decode after encode -/

/-- A well-formed operation is the decode of its canonical word. -/
theorem decode_encode {i : Instr} (h : i.WellFormed) : decode (encode i) = i := by
  cases i
  case rdSysclkHz | rdClkdiv | rdFreqHz | rdPwUs | rdPsUs | rdCmd | rdStatus | rdCountA | rdCountB | rdCountC
      | rdCountD => exact decode_read _ _
  case wrSysclkHz | wrFreqHz | wrPwUs | wrPsUs | wrStatus | wrCountA | wrCountB | wrCountC | wrCountD =>
    exact decode_write _ _
  case wrClkdiv q =>
    calc decode (mkReq true Reg.clkdiv.offset (Machine.dividerWord q))
      _ = .wrClkdiv (dividerField (Machine.dividerWord q)) := by rw [decode_write, decodeWrite_clkdiv]
      _ = .wrClkdiv q := by rw [Machine.dividerField_dividerWord]
  case cmdNop | cmdStart | cmdClear => exact decode_write_cmd _
  case cmdRsvd v =>
    obtain ⟨h0, h1, h2⟩ : v ≠ 0#32 ∧ v ≠ 1#32 ∧ v ≠ 2#32 := by
      simpa [Instr.WellFormed, Instr.wellFormed, isDefinedCommand] using h
    exact decode_write_cmd_reserved h0 h1 h2
  case buserr b a v =>
    obtain ⟨ha, hv⟩ : isBusErrAddr a = true ∧ (b = true ∨ v = 0#32) := by
      simpa [Instr.WellFormed, Instr.wellFormed] using h
    have hdata : (if b then v else 0#32) = v := by
      rcases hv with rfl | rfl
      · rfl
      · exact ite_self _
    exact (decode_of_ofAddr_none ((ofAddr_eq_none_iff a).2 ha) b v).trans (by rw [hdata])

/-! ## The decoder gives well-formed operations -/

theorem wellFormed_decodeCommand (v : Word) : (decodeCommand v).WellFormed := by
  unfold decodeCommand
  split_ifs with h0 h1 h2
  case neg => simp [Instr.WellFormed, Instr.wellFormed, isDefinedCommand, h0, h1, h2]
  all_goals rfl

theorem wellFormed_decodeRead (a : Addr) : (decodeRead a).WellFormed := by
  cases h : Reg.ofAddr a with
  | none => simp [decodeRead, h, Instr.WellFormed, Instr.wellFormed, (ofAddr_eq_none_iff a).1 h]
  | some r => cases r <;> simp [decodeRead, h, Instr.WellFormed, Instr.wellFormed]

theorem wellFormed_decodeWrite (a : Addr) (v : Word) : (decodeWrite a v).WellFormed := by
  cases h : Reg.ofAddr a with
  | none => simp [decodeWrite, h, Instr.WellFormed, Instr.wellFormed, (ofAddr_eq_none_iff a).1 h]
  | some r =>
    cases r
    case cmd => simpa only [decodeWrite, h] using wellFormed_decodeCommand v
    all_goals simp [decodeWrite, h, Instr.WellFormed, Instr.wellFormed]

/-! ## Encode after decode (R72) -/

/-- The DATA of the canonical word of a request: 0 for a read, bits 23:0 for a write of CLKDIV, all of it for the rest. -/
def canonicalData (b : Bool) (a : Addr) (v : Word) : Word :=
  if b then if a = Reg.clkdiv.offset then Machine.dividerWord (dividerField v) else v else 0#32

theorem encode_decodeRead (a : Addr) : encode (decodeRead a) = mkReq false a 0#32 := by
  cases h : Reg.ofAddr a with
  | none => simp [decodeRead, h, encode]
  | some r =>
    rw [eq_offset_of_ofAddr h]
    cases r <;> rfl

theorem encode_decodeCommand (v : Word) : encode (decodeCommand v) = mkReq true Reg.cmd.offset v := by
  unfold decodeCommand
  split_ifs with h0 h1 h2
  · rw [h0]; rfl
  · rw [h1]; rfl
  · rw [h2]; rfl
  · rfl

theorem encode_decodeWrite (a : Addr) (v : Word) :
    encode (decodeWrite a v) = mkReq true a (canonicalData true a v) := by
  cases h : Reg.ofAddr a with
  | none =>
    have ha : a ≠ Reg.clkdiv.offset := by rintro rfl; simp at h
    simp [decodeWrite, h, encode, canonicalData, ha]
  | some r =>
    rw [eq_offset_of_ofAddr h]
    cases r
    case cmd => exact encode_decodeCommand v
    all_goals rfl

/-- The word of a request's operation is the request with its canonical DATA. -/
theorem encode_decode_mkReq (b : Bool) (a : Addr) (v : Word) :
    encode (decode (mkReq b a v)) = mkReq b a (canonicalData b a v) := by
  cases b with
  | false => rw [decode_read, encode_decodeRead]; rfl
  | true => rw [decode_write, encode_decodeWrite]

/-- A word is a divider's exactly when its top byte is 0 (R12). -/
theorem dividerWord_dividerField_eq_self_iff (v : Word) :
    Machine.dividerWord (dividerField v) = v ↔ v.extractLsb' 24 8 = 0#8 := by
  have hlow : (Machine.dividerWord (dividerField v)).toNat = v.toNat % 2 ^ 24 := by
    simp only [Machine.dividerWord, dividerField, BitVec.toNat_setWidth]
    omega
  rw [← BitVec.toNat_inj, ← BitVec.toNat_inj, hlow, BitVec.extractLsb'_toNat, Nat.shiftRight_eq_div_pow,
    BitVec.toNat_zero]
  omega

/-- The canonical words (R72): a read with DATA = 0, a write of CLKDIV with its top byte 0, any other write. -/
theorem canonicalData_eq_self_iff (b : Bool) (a : Addr) (v : Word) :
    canonicalData b a v = v ↔
      (b = false → v = 0#32) ∧ (b = true → a = Reg.clkdiv.offset → v.extractLsb' 24 8 = 0#8) := by
  cases b with
  | false =>
    have hzero : canonicalData false a v = 0#32 := rfl
    simp [hzero, eq_comm (a := 0#32)]
  | true =>
    by_cases ha : a = Reg.clkdiv.offset
    · simp [canonicalData, ha, dividerWord_dividerField_eq_self_iff]
    · simp [canonicalData, ha]

/-! ## The statements -/

/-- Settles O3: `decode_encode`, case by case the decode of a request with the offset of a register. -/
theorem decodeOfEncodeIsIdentity : Obligations.DecodeOfEncodeIsIdentity :=
  fun _ h => decode_encode h

/-- Settles O4: the operation of a read, and that of a write, at each register and at the offsets without one. -/
theorem decodeGivesWellFormed : Obligations.DecodeGivesWellFormed := by
  intro w
  unfold decode
  split
  · exact wellFormed_decodeWrite _ _
  · exact wellFormed_decodeRead _

/-- Settles O5: decode and then encode makes DATA canonical and keeps W and ADDR. -/
theorem encodeOfDecodeOnCanonicalWords : Obligations.EncodeOfDecodeOnCanonicalWords := by
  refine ⟨fun w => ?_, by decide⟩
  have hcanon : encode (decode w) =
      mkReq (reqWrite w) (reqAddr w) (canonicalData (reqWrite w) (reqAddr w) (reqData w)) := by
    rw [← encode_decode_mkReq, mkReq_fields]
  have hsame : encode (decode w) = w ↔ canonicalData (reqWrite w) (reqAddr w) (reqData w) = reqData w := by
    simp [reqWord_eq_iff, hcanon]
  have htop : (reqData w).extractLsb' 24 8 = w.extractLsb' 24 8 := by
    apply BitVec.eq_of_getLsbD_eq
    intro i hi
    simp [reqData, hi]
  rw [hsame, canonicalData_eq_self_iff, htop]
  exact Iff.rfl

/-- Settles O6: each worked operation is well-formed and encodes to its word, so `decode_encode` decodes it; a write of a
count and a misaligned read are bus errors. -/
theorem workedEncodingsDecode : Obligations.WorkedEncodingsDecode := by
  have worked : ∀ {i : Instr} {w : ReqWord}, i.WellFormed → encode i = w → decode w = i ∧ encode i = w :=
    fun hi hw => ⟨hw ▸ decode_encode hi, hw⟩
  obtain ⟨d1, e1⟩ := worked (i := .wrSysclkHz 125000000#32) (w := 0x4007735940#39) rfl (by decide)
  obtain ⟨d2, e2⟩ := worked (i := .wrClkdiv 3200#24) (w := 0x4400000C80#39) rfl (by decide)
  obtain ⟨d3, e3⟩ := worked (i := .cmdStart) (w := 0x5400000001#39) rfl (by decide)
  obtain ⟨d4, e4⟩ := worked (i := .rdStatus) (w := 0x1800000000#39) rfl (by decide)
  obtain ⟨d5, e5⟩ := worked (i := .rdCountD) (w := 0x2C00000000#39) rfl (by decide)
  obtain ⟨d6, e6⟩ := worked (i := .wrCountA 7#32) (w := 0x6000000007#39) rfl (by decide)
  obtain ⟨d7, e7⟩ := worked (i := .buserr false 0x01#6 0#32) (w := 0x0100000000#39) rfl (by decide)
  exact ⟨d1, e1, e1, d2, e2, rfl, d3, e3, d4, e4, d5, e5, d6, e6, d7, e7,
    fun s => Machine.exec_busError (by simp [Instr.mnemonic, busErrorMnemonics]) s,
    fun s => Machine.exec_busError (by simp [Instr.mnemonic, busErrorMnemonics]) s⟩

end Sys2Proof
end

section
/-! SUPPORT. The raw counts as floors of exact rationals, the two idle-tail domains compared, and the bounds of a result
(spec/42_calculation.md R121 to R138). -/

namespace Sys2Proof.Machine

/-! ## The exact quantities: everything is a multiple of the cycles in a microsecond -/

/-- The exact number of counter cycles in a microsecond, at S / (Q / 256) hertz (R125). -/
def cyclesPerUs (S Q : ℕ) : ℚ := (S : ℚ) * 256 / (Q * 1000000)

theorem cyclesPerUs_nonneg (S Q : ℕ) : 0 ≤ cyclesPerUs S Q := by
  unfold cyclesPerUs
  positivity

theorem cyclesPerUs_pos {S Q : ℕ} (hS : 0 < S) (hQ : Q ≠ 0) : 0 < cyclesPerUs S Q := by
  unfold cyclesPerUs
  positivity

/-- The exact clock frequency in megahertz is the number of cycles in a microsecond. -/
theorem frequency_eq_cyclesPerUs (S Q : ℕ) : (S : ℚ) / ((Q : ℚ) / 256) * (1 / 1000000) = cyclesPerUs S Q := by
  rw [cyclesPerUs, div_div_eq_mul_div, div_mul_div_comm, mul_one]

theorem exactDuration_eq (S Q us : ℕ) : (us : ℚ) * S * 256 / (Q * 1000000) = us * cyclesPerUs S Q := by
  rw [cyclesPerUs, mul_assoc, mul_div_assoc]

theorem exactPeriod_eq (S Q F : ℕ) : (S : ℚ) * 256 / (Q * F) = 1000000 / F * cyclesPerUs S Q := by
  rw [cyclesPerUs]
  ring

/-! ## The raw counts are floors of them (R124 to R127) -/

theorem floor_duration (S Q us : ℕ) : ⌊(us : ℚ) * cyclesPerUs S Q⌋ = (durationRaw S Q us : ℤ) := by
  have hquot : (us : ℚ) * cyclesPerUs S Q = ((us * S * 256 : ℕ) : ℚ) / ((Q * 1000000 : ℕ) : ℚ) := by
    rw [← exactDuration_eq]
    push_cast
    rfl
  rw [hquot, Rat.floor_natCast_div_natCast]
  exact (Int.natCast_ediv _ _).symm

theorem floor_exactPeriod (S Q F : ℕ) : ⌊1000000 / (F : ℚ) * cyclesPerUs S Q⌋ = (periodRaw S Q F : ℤ) := by
  rw [← exactPeriod_eq, ← floor_period, div_div_eq_mul_div, div_div]

theorem floor_idleUs {F PW PS : ℕ} (S Q : ℕ) (hF : F ≠ 0) (hT : (2 * PW + PS) * F < 1000000) :
    ⌊(1000000 / (F : ℚ) - (2 * PW + PS)) * cyclesPerUs S Q⌋ = (idleRawUs S Q F PW PS : ℤ) := by
  have hF' : (F : ℚ) ≠ 0 := by exact_mod_cast hF
  have hquot : (1000000 / (F : ℚ) - (2 * PW + PS)) * cyclesPerUs S Q =
      (((1000000 - (2 * PW + PS) * F) * S * 256 : ℕ) : ℚ) / ((F * Q * 1000000 : ℕ) : ℚ) := by
    push_cast [Nat.cast_sub hT.le]
    rw [cyclesPerUs, div_sub' hF', div_mul_div_comm]
    ring
  rw [hquot, Rat.floor_natCast_div_natCast]
  exact (Int.natCast_ediv _ _).symm

/-! ## The idle tail is what the pulses and the gap leave (R135) -/

/-- When step 3 passes, the requested durations are shorter than the exact period, in microseconds. -/
theorem requested_lt_period {F PW PS : ℕ} (hF : F ≠ 0) (hT : (2 * PW + PS) * F < 1000000) :
    (2 * PW + PS : ℚ) < 1000000 / F := by
  rw [← not_le, period_le_requested_iff hF]
  omega

theorem floor_two_mul_add_le (a b : ℚ) : 2 * ⌊a⌋ + ⌊b⌋ ≤ ⌊2 * a + b⌋ := by
  rw [Int.le_floor]
  push_cast
  linarith [Int.floor_le a, Int.floor_le b]

/-- When step 3 passes, the raw counts of the pulses and the gap fit the period in cycles. -/
theorem durations_le_periodRaw {F PW PS : ℕ} (S Q : ℕ) (hF : F ≠ 0) (hT : (2 * PW + PS) * F < 1000000) :
    2 * durationRaw S Q PW + durationRaw S Q PS ≤ periodRaw S Q F := by
  have hexact : 2 * (PW * cyclesPerUs S Q) + PS * cyclesPerUs S Q ≤ 1000000 / F * cyclesPerUs S Q := by
    rw [← mul_assoc, ← add_mul]
    exact mul_le_mul_of_nonneg_right (requested_lt_period hF hT).le (cyclesPerUs_nonneg S Q)
  have hfloor := (floor_two_mul_add_le _ _).trans (Int.floor_le_floor hexact)
  rw [floor_duration, floor_duration, floor_exactPeriod] at hfloor
  exact_mod_cast hfloor

/-! ## The two idle-tail domains (R138) -/

/-- The floor of a difference, by the floors and the fractions of its terms. -/
theorem floor_sub_two_mul_sub (p a b : ℚ) :
    ⌊p - (2 * a + b)⌋ = ⌊p⌋ - 2 * ⌊a⌋ - ⌊b⌋ + ⌊Int.fract p - 2 * Int.fract a - Int.fract b⌋ := by
  have hfract : p - (2 * a + b) = (Int.fract p - 2 * Int.fract a - Int.fract b) + ((⌊p⌋ - 2 * ⌊a⌋ - ⌊b⌋ : ℤ) : ℚ) := by
    push_cast
    linarith [Int.floor_add_fract p, Int.floor_add_fract a, Int.floor_add_fract b]
  rw [hfract, Int.floor_add_intCast, add_comm]

/-- Three fractions are below 1 each: the floor of their difference is one of -3, -2, -1, 0. -/
theorem floor_fract_sub_bounds (p a b : ℚ) :
    -3 ≤ ⌊Int.fract p - 2 * Int.fract a - Int.fract b⌋ ∧ ⌊Int.fract p - 2 * Int.fract a - Int.fract b⌋ ≤ 0 := by
  constructor
  · rw [Int.le_floor]
    push_cast
    linarith [Int.fract_nonneg p, Int.fract_lt_one a, Int.fract_lt_one b]
  · rw [← Int.lt_add_one_iff, Int.floor_lt]
    push_cast
    linarith [Int.fract_lt_one p, Int.fract_nonneg a, Int.fract_nonneg b]

/-- The idle tail taken in cycles, as an integer: nothing is cut at zero (R126, R135). -/
theorem idleRawCyc_eq {F PW PS : ℕ} (S Q : ℕ) (hF : F ≠ 0) (hT : (2 * PW + PS) * F < 1000000) :
    (idleRawCyc S Q F PW PS : ℤ) = periodRaw S Q F - 2 * durationRaw S Q PW - durationRaw S Q PS := by
  have hle := durations_le_periodRaw S Q hF hT
  unfold idleRawCyc
  omega

/-- The idle tails of the two domains differ by the floor of the fractions. -/
theorem idleRawUs_eq_idleRawCyc_add {F PW PS : ℕ} (S Q : ℕ) (hF : F ≠ 0) (hT : (2 * PW + PS) * F < 1000000) :
    (idleRawUs S Q F PW PS : ℤ) = idleRawCyc S Q F PW PS
      + ⌊Int.fract (1000000 / (F : ℚ) * cyclesPerUs S Q) - 2 * Int.fract ((PW : ℚ) * cyclesPerUs S Q)
          - Int.fract ((PS : ℚ) * cyclesPerUs S Q)⌋ := by
  have hsplit : (1000000 / (F : ℚ) - (2 * PW + PS)) * cyclesPerUs S Q =
      1000000 / F * cyclesPerUs S Q - (2 * (PW * cyclesPerUs S Q) + PS * cyclesPerUs S Q) := by ring
  rw [← floor_idleUs S Q hF hT, hsplit, floor_sub_two_mul_sub, floor_duration, floor_duration, floor_exactPeriod,
    idleRawCyc_eq S Q hF hT]

/-- The domain CYC is ahead of US by 0 to 3 cycles. -/
theorem idleRawUs_bounds {F PW PS : ℕ} (S Q : ℕ) (hF : F ≠ 0) (hT : (2 * PW + PS) * F < 1000000) :
    idleRawUs S Q F PW PS ≤ idleRawCyc S Q F PW PS ∧ idleRawCyc S Q F PW PS ≤ idleRawUs S Q F PW PS + 3 := by
  have heq := idleRawUs_eq_idleRawCyc_add S Q hF hT
  obtain ⟨hlow, hhigh⟩ := floor_fract_sub_bounds (1000000 / (F : ℚ) * cyclesPerUs S Q)
    ((PW : ℚ) * cyclesPerUs S Q) ((PS : ℚ) * cyclesPerUs S Q)
  omega

theorem idleRawCyc_le_periodRaw (S Q F PW PS : ℕ) : idleRawCyc S Q F PW PS ≤ periodRaw S Q F := by
  unfold idleRawCyc
  omega

theorem idleRaw_le_periodRaw (d : Config.IdleDomain) {F PW PS : ℕ} (S Q : ℕ) (hF : F ≠ 0)
    (hT : (2 * PW + PS) * F < 1000000) : idleRaw d S Q F PW PS ≤ periodRaw S Q F := by
  have hcyc := idleRawCyc_le_periodRaw S Q F PW PS
  cases d with
  | cyc => exact hcyc
  | us => exact (idleRawUs_bounds S Q hF hT).1.trans hcyc

/-! ## The stored counts -/

/-- The stored counts are the raw ones less 4, floored at zero (R128). -/
theorem storedCounts_eq (d : Config.IdleDomain) (S Q F PW PS : ℕ) :
    storedCounts d S Q F PW PS =
      ⟨durationRaw S Q PW - 4, durationRaw S Q PS - 4, durationRaw S Q PW - 4, idleRaw d S Q F PW PS - 4⟩ := by
  simp [storedCounts, Config.overhead]

/-- No stored count exceeds CNT_MAX - 4, as no raw count exceeds the period (R134, R136). -/
theorem stored_le_of_calc_ok {d : Config.IdleDomain} {S Q F PW PS : ℕ} {c : Counts}
    (h : calcDelay d S Q F PW PS = .ok c) :
    c.a ≤ 4294967291 ∧ c.b ≤ 4294967291 ∧ c.c ≤ 4294967291 ∧ c.d ≤ 4294967291 := by
  obtain ⟨-, hF, hT, hP, rfl⟩ := (calcDelay_eq_ok_iff _ _ _ _ _ _ _).1 h
  have hdur := durations_le_periodRaw S Q hF hT
  have hidle := idleRaw_le_periodRaw d S Q hF hT
  simp only [storedCounts_eq]
  omega

/-! ## S = 0: no cycle at all -/

theorem durationRaw_zero (Q us : ℕ) : durationRaw 0 Q us = 0 := by simp [durationRaw]

theorem periodRaw_zero (Q F : ℕ) : periodRaw 0 Q F = 0 := by simp [periodRaw]

theorem idleRaw_zero (d : Config.IdleDomain) (Q F PW PS : ℕ) : idleRaw d 0 Q F PW PS = 0 := by
  cases d <;> simp [idleRaw, idleRawCyc, idleRawUs, periodRaw_zero]

theorem storedCounts_zero (d : Config.IdleDomain) (Q F PW PS : ℕ) : storedCounts d 0 Q F PW PS = ⟨0, 0, 0, 0⟩ := by
  simp [storedCounts_eq, durationRaw_zero, idleRaw_zero]

/-! ## Monotonicity (R133) -/

theorem durationRaw_mono (S Q : ℕ) {us us' : ℕ} (h : us ≤ us') : durationRaw S Q us ≤ durationRaw S Q us' :=
  Nat.div_le_div_right (Nat.mul_le_mul_right _ (Nat.mul_le_mul_right _ h))

theorem idleRaw_antitone (d : Config.IdleDomain) (S Q F : ℕ) {PW PW' PS PS' : ℕ} (hPW : PW ≤ PW') (hPS : PS ≤ PS') :
    idleRaw d S Q F PW' PS' ≤ idleRaw d S Q F PW PS := by
  cases d with
  | cyc =>
    have hA := durationRaw_mono S Q hPW
    have hB := durationRaw_mono S Q hPS
    simp only [idleRaw, idleRawCyc]
    omega
  | us =>
    have hT : requestedUs PW PS ≤ requestedUs PW' PS' := by
      unfold requestedUs
      omega
    have hleft := Nat.sub_le_sub_left (Nat.mul_le_mul_right F hT) Config.usPerS
    exact Nat.div_le_div_right (Nat.mul_le_mul_right _ (Nat.mul_le_mul_right _ hleft))

/-! ## Bounds (R136, R137) -/

/-- When step 3 passes, each requested duration is below the microseconds of a second. -/
theorem durations_of_timing {F PW PS : ℕ} (hF : F ≠ 0) (hT : (2 * PW + PS) * F < 1000000) :
    PW ≤ 499999 ∧ PS ≤ 999999 := by
  have hle : 2 * PW + PS ≤ (2 * PW + PS) * F := Nat.le_mul_of_pos_right _ (Nat.pos_of_ne_zero hF)
  omega

/-! ## The statements -/

/-- Settles O26: each floor of the exact formula is a raw count, and `idleRawCyc_eq` takes the subtraction of the idle tail
into the integers. -/
theorem calcIsTheExactFormula : Obligations.CalcIsTheExactFormula := by
  intro d S Q F PW PS c h f a b idle
  obtain ⟨-, hF, hT, -, rfl⟩ := (calcDelay_eq_ok_iff _ _ _ _ _ _ _).1 h
  have hf : ∀ x : ℚ, x * f * (1 / 1000000) = x * cyclesPerUs S Q := fun x => by
    rw [mul_assoc, frequency_eq_cyclesPerUs]
  have ha : a = durationRaw S Q PW := (congrArg Int.floor (hf _)).trans (floor_duration S Q PW)
  have hb : b = durationRaw S Q PS := (congrArg Int.floor (hf _)).trans (floor_duration S Q PS)
  have hidle : idle = idleRaw d S Q F PW PS := by
    cases d with
    | cyc =>
      have hcyc : idle = ⌊f / F⌋ - a - b - a := rfl
      have hp : ⌊f / F⌋ = periodRaw S Q F := floor_period S Q F
      rw [idleRaw, idleRawCyc_eq S Q hF hT, hcyc, hp, ha, hb]
      ring
    | us => exact (congrArg Int.floor (hf _)).trans (floor_idleUs S Q hF hT)
  have hstored : ∀ n : ℕ, ((n - 4 : ℕ) : ℤ) = max ((n : ℤ) - 4) 0 := by omega
  rw [storedCounts_eq, ha, hb, hidle]
  exact ⟨hstored _, hstored _, hstored _, hstored _⟩

/-- Settles O27: `idleRawCyc_eq` says the sum in cycles, and `idleRawUs_bounds` how far US is below it. -/
theorem rawCountsSumToPeriod : Obligations.RawCountsSumToPeriod := by
  intro d S Q F PW PS c h
  obtain ⟨-, hF, hT, -, -⟩ := (calcDelay_eq_ok_iff _ _ _ _ _ _ _).1 h
  have hcyc := idleRawCyc_eq S Q hF hT
  have hus := idleRawUs_bounds S Q hF hT
  omega

/-- Settles O28: a duration stands in a numerator of A and B, and is subtracted in the idle tail. -/
theorem countsAreMonotone : Obligations.CountsAreMonotone := by
  refine ⟨fun S Q us us' _ hus => ?_, fun d S Q F PW PW' PS PS' _ hPW hPS => idleRaw_antitone d S Q F hPW hPS⟩
  have hraw := durationRaw_mono S Q hus
  rw [satSub_eq, satSub_eq]
  exact ⟨hraw, Nat.sub_le_sub_right hraw _⟩

/-- Settles O29: the floor is the natural numbers' subtraction of 4, the bound `stored_le_of_calc_ok`. -/
theorem storedCountFloor : Obligations.StoredCountFloor := by
  refine ⟨fun n hn => ?_, rfl, fun n _ => satSub_eq n 4, fun d S Q F PW PS c => stored_le_of_calc_ok⟩
  rw [satSub_eq]
  exact Nat.sub_eq_zero_of_le hn

/-- Settles O30: 2a + b and p are multiples of the cycles in a microsecond, by the requested durations and by the exact
period. -/
theorem idleTailNeverNegative : Obligations.IdleTailNeverNegative := by
  refine ⟨?_, fun d Q F PW PS hQ hF hT => ⟨idleRaw_zero d Q F PW PS, ?_⟩⟩
  · intro S Q F PW PS hQ hF hT a b p
    have ha : a = PW * cyclesPerUs S Q := exactDuration_eq S Q PW
    have hb : b = PS * cyclesPerUs S Q := exactDuration_eq S Q PS
    have hp : p = 1000000 / F * cyclesPerUs S Q := exactPeriod_eq S Q F
    have hab : 2 * a + b = (2 * PW + PS) * cyclesPerUs S Q := by rw [ha, hb]; ring
    have hlt := requested_lt_period hF hT
    have hle : 2 * a + b ≤ p := by
      rw [hab, hp]
      exact mul_le_mul_of_nonneg_right hlt.le (cyclesPerUs_nonneg S Q)
    refine ⟨?_, ?_, hle, fun hS => ?_, floor_two_mul_add_le a b, Int.floor_le_floor hle,
      durations_le_periodRaw S Q hF hT⟩
    · rw [hab, exactDuration_eq]
      push_cast
      rfl
    · rw [hp, cyclesPerUs]
      ring
    · rw [hab, hp]
      exact mul_lt_mul_of_pos_right hlt (cyclesPerUs_pos hS hQ)
  · rw [calcDelay_eq_ok_iff]
    exact ⟨hQ, hF, hT, by simp [periodRaw_zero], (storedCounts_zero d Q F PW PS).symm⟩

/-- Settles O31: the durations by `durations_of_timing`, the raw counts by the period, the stored ones by
`stored_le_of_calc_ok`. -/
theorem boundsOfValidResults : Obligations.BoundsOfValidResults := by
  intro d S Q F PW PS c h
  obtain ⟨hcA, hcB, hcC, hcD⟩ := stored_le_of_calc_ok h
  obtain ⟨-, hF, hT, hP, rfl⟩ := (calcDelay_eq_ok_iff _ _ _ _ _ _ _).1 h
  obtain ⟨hPW, hPS⟩ := durations_of_timing hF hT
  have hdur := durations_le_periodRaw S Q hF hT
  refine ⟨by omega, hPW, hPS, fun hone => ?_, by omega, by omega, idleRaw_le_periodRaw .cyc S Q hF hT,
    idleRaw_le_periodRaw .us S Q hF hT, hP, by omega, by omega, by omega, by omega, ?_⟩
  · have hle : F ≤ (2 * PW + PS) * F := Nat.le_mul_of_pos_left _ hone
    omega
  · rintro rfl
    exact ⟨durationRaw_zero Q PW, durationRaw_zero Q PS, idleRaw_zero d Q F PW PS, periodRaw_zero Q F,
      storedCounts_zero d Q F PW PS⟩

/-- Settles O32: each product is bounded factor by factor; the raw counts by the period. -/
theorem widthsOfIntermediates : Obligations.WidthsOfIntermediates := by
  intro S Q F PW PS hS hF hPW hPS hQ
  have hreq : requestedUs PW PS ≤ 3 * (2 ^ 32 - 1) := by
    unfold requestedUs
    omega
  have hQF : F * Q < 2 ^ 32 * 2 ^ 24 := Nat.mul_lt_mul'' hF hQ
  refine ⟨hreq, by omega, ?_, fun hF0 hr => hr.trans (Nat.le_mul_of_pos_right _ hF0), by omega, ?_, fun _ _ => ?_,
    by omega, by omega, fun hF0 hT => ?_, fun d c h => ?_⟩
  · exact (Nat.mul_lt_mul'' (Nat.lt_of_le_of_lt hreq (by norm_num)) hF).trans_eq (by norm_num : 2 ^ 34 * 2 ^ 32 = 2 ^ 66)
  · rw [mul_comm Q F]
    omega
  · have hle : periodRaw S Q F ≤ S * 256 := Nat.div_le_self _ _
    omega
  · obtain ⟨hpw, hps⟩ := durations_of_timing (Nat.ne_of_gt hF0) hT
    have hA : PW * S < 2 ^ 19 * 2 ^ 32 := Nat.mul_lt_mul'' (by omega) hS
    have hB : PS * S < 2 ^ 20 * 2 ^ 32 := Nat.mul_lt_mul'' (by omega) hS
    have hD : (1000000 - requestedUs PW PS * F) * S < 2 ^ 20 * 2 ^ 32 := Nat.mul_lt_mul'' (by omega) hS
    omega
  · obtain ⟨-, hF0, hT, hP, -⟩ := (calcDelay_eq_ok_iff _ _ _ _ _ _ _).1 h
    have hdur := durations_le_periodRaw S Q hF0 hT
    have hidle := idleRaw_le_periodRaw d S Q hF0 hT
    omega

/-- Settles O33: the raw idle tails by `idleRawUs_eq_idleRawCyc_add` and `idleRawUs_bounds`; A, B and C, and the tests for
an error, do not look at the domain. -/
theorem idleDomainsDifferByAtMostThree : Obligations.IdleDomainsDifferByAtMostThree := by
  refine ⟨fun S Q F PW PS c c' h h' => ?_, fun S Q F PW PS => ?_, by decide, by decide⟩
  · obtain ⟨-, hF, hT, -, rfl⟩ := (calcDelay_eq_ok_iff _ _ _ _ _ _ _).1 h
    obtain ⟨-, -, -, -, rfl⟩ := (calcDelay_eq_ok_iff _ _ _ _ _ _ _).1 h'
    obtain ⟨hle, hge⟩ := idleRawUs_bounds S Q hF hT
    refine ⟨hle, hge, ?_, rfl, rfl, rfl, ?_⟩
    · rw [exactPeriod_eq, exactDuration_eq, exactDuration_eq]
      exact idleRawUs_eq_idleRawCyc_add S Q hF hT
    · simp only [storedCounts_eq, idleRaw]
      omega
  · simp only [calcDelay_eq_ok_iff, exists_and_left, exists_eq]

end Sys2Proof.Machine
end

section
/-! SUPPORT. A parameter write by its register: what it stores, the bytes of the window after it, and the write repeated
(spec/20_memory.md R42 to R46; spec/40_register_access.md R92 to R97); and START (spec/41_commands.md R112). -/

namespace Sys2Proof.Machine

/-! ## A write by its register -/

/-- The register of the window that a parameter is. -/
def ParamReg.reg : ParamReg → Reg
  | .sysclkHz => .sysclkHz
  | .clkdiv => .clkdiv
  | .freqHz => .freqHz
  | .pwUs => .pwUs
  | .psUs => .psUs

/-- The parameters' offsets are the five of R41. -/
theorem exists_param_of_mem {a : Addr} (h : a ∈ [0x00#6, 0x04#6, 0x08#6, 0x0C#6, 0x10#6]) :
    ∃ p : ParamReg, a = p.reg.offset := by
  simp only [List.mem_cons, List.not_mem_nil, or_false] at h
  rcases h with rfl | rfl | rfl | rfl | rfl
  · exact ⟨.sysclkHz, rfl⟩
  · exact ⟨.clkdiv, rfl⟩
  · exact ⟨.freqHz, rfl⟩
  · exact ⟨.pwUs, rfl⟩
  · exact ⟨.psUs, rfl⟩

theorem decode_paramWrite (p : ParamReg) (v : Word) : decode (mkReq true p.reg.offset v) = p.write v := by
  rw [decode_write]
  cases p <;> rfl

/-- A write to a parameter's offset is the write of that parameter; of a value for CLKDIV the top byte is dropped twice. -/
theorem exec_paramWrite (p : ParamReg) (v : Word) (s : State) :
    exec (decode (mkReq true p.reg.offset v)) s = .next (writeParamOp s p v) := by
  rw [decode_paramWrite]
  cases p
  case clkdiv =>
    have hset : setParam s .clkdiv (dividerWord (dividerField v)) = setParam s .clkdiv v := by
      rw [setParam, setParam, dividerField_dividerWord]
    change Host.Outcome.next (writeParamOp s .clkdiv (dividerWord (dividerField v))) = _
    rw [writeParamOp, writeParamOp, hset]
  all_goals rfl

/-- A parameter write repeated leaves the state of one: stored again, or ignored again (R46). -/
theorem writeParamOp_writeParamOp (s : State) (p : ParamReg) (v : Word) :
    writeParamOp (writeParamOp s p v) p v = writeParamOp s p v := by
  cases hl : s.locked with
  | true =>
    rw [writeParamOp_locked hl]
    exact writeParamOp_locked (s := { s with ign := true, rsp := ⟨false, 0#32⟩ }) hl p v
  | false =>
    have hl' : (writeParamOp s p v).locked = false := by
      simpa [writeParamOp_unlocked hl, State.locked] using hl
    rw [writeParamOp_unlocked hl', writeParamOp_unlocked hl]
    cases p <;> rfl

/-! ## What the window shows after a write -/

/-- The value a parameter register takes from a write: for CLKDIV bits 23:0 of it (R94). -/
def ParamReg.stored : ParamReg → Word → Word
  | .clkdiv, v => dividerWord (dividerField v)
  | _, v => v

theorem readReg_setParam_same (s : State) (p : ParamReg) (v : Word) :
    readReg (setParam s p v) p.reg = p.stored v := by
  cases p
  case clkdiv => exact congrArg dividerWord (dividerField_dividerWord _)
  all_goals rfl

theorem readReg_setParam_of_ne (s : State) {p : ParamReg} {r : Reg} (h : r ≠ p.reg) (v : Word) :
    readReg (setParam s p v) r = readReg s r := by
  cases p <;> cases r
  case sysclkHz.sysclkHz | clkdiv.clkdiv | freqHz.freqHz | pwUs.pwUs | psUs.psUs => exact absurd rfl h
  all_goals rfl

/-- IGN shows in STATUS alone. -/
theorem readReg_ignored_of_ne (s : State) (q : Response) {r : Reg} (h : r ≠ .status) :
    readReg { s with ign := true, rsp := q } r = readReg s r := by
  cases r
  case status => exact absurd rfl h
  all_goals rfl

/-- IGN is bit 4 of STATUS: the bytes above the first do not show it (R21). -/
theorem statusByte_ignored (s : State) (q : Response) {k : Nat} (h : k ≠ 0) :
    (State.statusWord { s with ign := true, rsp := q }).extractLsb' (8 * k) 8 =
      s.statusWord.extractLsb' (8 * k) 8 := by
  apply BitVec.eq_of_getLsbD_eq
  intro i hi
  have hbit : 8 * k + i ≠ 4 := by omega
  simp [getLsbD_statusWord, hi, hbit]

/-! ## The byte view (R42) -/

/-- The byte at an offset is taken from the register of its word. -/
theorem windowByte_of_ofIndex {off : Addr} {r : Reg} (h : Reg.ofIndex (wordIndex off).toNat = some r) (s : State) :
    windowByte s off = some ((readReg s r).extractLsb' (8 * (byteInWord off).toNat) 8) := by
  simp [windowByte, h]

/-- The byte view is a function of the values the registers show. -/
theorem windowByte_congr {s t : State} {off : Addr}
    (h : ∀ r, Reg.ofIndex (wordIndex off).toNat = some r →
      (readReg t r).extractLsb' (8 * (byteInWord off).toNat) 8 = (readReg s r).extractLsb' (8 * (byteInWord off).toNat) 8) :
    windowByte t off = windowByte s off := by
  cases hr : Reg.ofIndex (wordIndex off).toNat with
  | none => simp [windowByte, hr]
  | some r => rw [windowByte_of_ofIndex hr, windowByte_of_ofIndex hr, h r hr]

/-- Byte `k` of a register is at its offset plus `k`. -/
theorem windowByte_offset_add (s : State) (r : Reg) (k : BitVec 2) :
    windowByte s (r.offset + k.setWidth 6) = some ((readReg s r).extractLsb' (8 * k.toNat) 8) := by
  have hindex : Reg.ofIndex (wordIndex (r.offset + k.setWidth 6)).toNat = some r := by
    revert k
    cases r <;> decide
  have hbyte : byteInWord (r.offset + k.setWidth 6) = k := by
    revert k
    cases r <;> decide
  rw [windowByte_of_ofIndex hindex, hbyte]

/-- The offsets of a register are those of its word. -/
theorem offset_div_four_of_ofIndex {off : Addr} {r : Reg} (h : Reg.ofIndex (wordIndex off).toNat = some r) :
    off.toNat / 4 = r.offset.toNat / 4 := by
  revert off
  cases r <;> decide

/-- The first byte of STATUS is at 0x18. -/
theorem eq_status_offset {off : Addr} (h : Reg.ofIndex (wordIndex off).toNat = some .status)
    (hk : (byteInWord off).toNat = 0) : off = Reg.status.offset := by
  revert off
  decide

/-- The bytes of what a parameter register stores: those of the value, but for the top byte of CLKDIV. -/
theorem stored_byte (p : ParamReg) (v : Word) (k : BitVec 2) :
    (p.stored v).extractLsb' (8 * k.toNat) 8 =
      if p = .clkdiv ∧ k = 3#2 then 0#8 else v.extractLsb' (8 * k.toNat) 8 := by
  cases p
  case clkdiv =>
    apply BitVec.eq_of_getLsbD_eq
    intro i hi
    have hk : k = 3#2 ↔ k.toNat = 3 := BitVec.toNat_inj.symm
    have hlow : 8 * k.toNat + i < 24 ↔ k.toNat ≠ 3 := by omega
    by_cases h3 : k.toNat = 3
    · simp [ParamReg.stored, dividerWord, dividerField, hk, h3]
    · have hin : 8 * k.toNat + i < 32 := by omega
      simp [ParamReg.stored, dividerWord, dividerField, hi, hk, hlow, h3, hin]
  all_goals simp [ParamReg.stored]

/-! ## The bytes of the window after a parameter write -/

/-- A stored write shows at the four bytes of its register. -/
theorem windowByte_write_same {s : State} (hl : s.locked = false) (p : ParamReg) (v : Word) (k : BitVec 2) :
    windowByte (writeParamOp s p v) (p.reg.offset + k.setWidth 6) =
      some (if p = .clkdiv ∧ k = 3#2 then 0#8 else v.extractLsb' (8 * k.toNat) 8) := by
  have hread : readReg (writeParamOp s p v) p.reg = p.stored v := by
    rw [writeParamOp_unlocked hl]
    exact (readReg_respond _ _ _ _).trans (readReg_setParam_same s p v)
  rw [windowByte_offset_add, hread, stored_byte]

/-- A stored write shows at no other byte. -/
theorem windowByte_write_of_ne {s : State} (hl : s.locked = false) (p : ParamReg) (v : Word) {off : Addr}
    (h : off.toNat / 4 ≠ p.reg.offset.toNat / 4) : windowByte (writeParamOp s p v) off = windowByte s off := by
  apply windowByte_congr
  intro r hr
  have hne : r ≠ p.reg := by
    rintro rfl
    exact h (offset_div_four_of_ofIndex hr)
  have hread : readReg (writeParamOp s p v) r = readReg s r := by
    rw [writeParamOp_unlocked hl]
    exact (readReg_respond _ _ _ _).trans (readReg_setParam_of_ne s hne v)
  rw [hread]

/-- An ignored write shows at the first byte of STATUS alone. -/
theorem windowByte_write_locked {s : State} (hl : s.locked = true) (p : ParamReg) (v : Word) {off : Addr}
    (h : off ≠ Reg.status.offset) : windowByte (writeParamOp s p v) off = windowByte s off := by
  rw [writeParamOp_locked hl]
  apply windowByte_congr
  intro r hr
  by_cases hstatus : r = .status
  · subst hstatus
    exact statusByte_ignored s _ fun hk => h (eq_status_offset hr hk)
  · rw [readReg_ignored_of_ne s _ hstatus]

/-! ## The statements -/

/-- Settles O16: the bytes of the window after `writeParamOp`, stored or ignored. -/
theorem parameterWriteWindowFrame : Obligations.ParameterWriteWindowFrame := by
  intro s t base v hbase h
  obtain ⟨p, rfl⟩ := exists_param_of_mem hbase
  rw [exec_paramWrite] at h
  injection h with h
  subst h
  refine ⟨fun hb hv => ?_, fun hlock off hoff => windowByte_write_locked ((locked_eq_true_iff s).2 hlock) p v hoff⟩
  have hl : s.locked = false := (locked_eq_false_iff s).2 ⟨hb, hv⟩
  have hbyte := windowByte_write_same hl p v
  have hclkdiv : p.reg.offset = 0x04#6 ↔ p = .clkdiv := by cases p <;> decide
  refine ⟨fun off hoff => windowByte_write_of_ne hl p v hoff, ?_, ?_, ?_, ?_⟩
  · simpa using hbyte 0#2
  · simpa using hbyte 1#2
  · simpa using hbyte 2#2
  · simpa [hclkdiv] using hbyte 3#2

/-- Settles O17: a parameter write by `writeParamOp_writeParamOp`; a START finds the engine busy with the START before it,
and is ignored. -/
theorem parameterWritesAreIdempotent : Obligations.ParameterWritesAreIdempotent := by
  refine ⟨fun s t base v hbase h => ?_, fun s t hb hv hi h hagain => ?_⟩
  · obtain ⟨p, rfl⟩ := exists_param_of_mem hbase
    rw [exec_paramWrite] at h ⊢
    injection h with h
    rw [← h, writeParamOp_writeParamOp]
  · rw [exec_cmdStart_accepted ((locked_eq_false_iff s).2 ⟨hb, hv⟩)] at h
    injection h with h
    subst h
    have hignored := exec_of_ignored (ignored_of_busy (i := .cmdStart) (s := s.startFlags.respondDone) rfl
      (by simp [Instr.mnemonic]))
    have hign := congrArg State.ign (eq_of_exec hagain hignored)
    simp [hi] at hign

/-- Settles O15: the write by `exec_wrClkdiv_unlocked`; what is read back is the field of what is stored. -/
theorem dividerWriteDropsTopByte : Obligations.DividerWriteDropsTopByte := by
  intro s v hb hv
  have hwrite : exec (decode (mkReq true Reg.clkdiv.offset v)) s =
      .next { s with clkdiv := 0#8 ++ v.extractLsb' 0 24, rsp := ⟨false, 0#32⟩ } := by
    rw [decode_write, decodeWrite_clkdiv, exec_wrClkdiv_unlocked ((locked_eq_false_iff s).2 ⟨hb, hv⟩),
      dividerField_eq_extract]
  refine ⟨hwrite, fun t ht => exec_decodeRead (r := .clkdiv) ?_⟩
  rw [eq_of_exec ht hwrite, ← dividerField_eq_extract, ← dividerWord_eq_append]
  exact congrArg dividerWord (dividerField_dividerWord _)

/-- Settles O22: START is accepted while not locked, and ignored while locked. -/
theorem commandStart : Obligations.CommandStart := by
  refine ⟨decode_write_cmd 1#32, fun s hb hv => exec_cmdStart_accepted ((locked_eq_false_iff s).2 ⟨hb, hv⟩),
    fun s hlock => exec_of_ignored (.inl ⟨?_, (locked_eq_true_iff s).2 hlock⟩)⟩
  simp [Instr.mnemonic]

end Sys2Proof.Machine
end

section
/-! SUPPORT. Every cycle answers; the invariants of R30 and what keeps them; the results of ENG.COMPLETE
(spec/10_state.md R30; spec/42_calculation.md R120; spec/60_exceptions.md R163). -/

namespace Sys2Proof.Machine

/-! ## Every cycle answers a next state (R8) -/

theorem exec_answers (i : Instr) (s : State) : ∃ t, exec i s = .next t := by
  obtain ⟨t, ht, -⟩ := exec_response i s
  exact ⟨t, ht⟩

theorem clockCycle_answers (d : Config.IdleDomain) (c : CycleInput) (s : State) : ∃ t, clockCycle d c s = .next t := by
  cases hr : c.rst with
  | true => exact ⟨_, clockCycle_rst d hr s⟩
  | false =>
    have hperform : ∃ t, performRequest s c.req = .next t := by
      cases c.req with
      | none => exact ⟨_, rfl⟩
      | some r => exact exec_answers (decode r.toWord) s
    obtain ⟨t, ht⟩ := hperform
    exact ⟨_, clockCycle_of_request hr ht⟩

theorem step_answers (s : State) : ∃ t, step s = .next t := clockCycle_answers _ _ _

/-! ## The states with the invariants of R30 -/

theorem inv_of_reset : StateInv State.reset where
  busy_clear := by decide
  done_iff := by decide
  not_both := by decide
  err_code := by decide
  no_err_code := by decide
  counts_zero := by decide
  c_is_a := rfl
  valid_calc := by decide
  clkdiv_top := by decide

/-- The invariants do not speak of IGN, the response and the schedule. -/
theorem StateInv.of_bookkeeping {s : State} (h : StateInv s) (i : Bool) (r : Response) (cs : List CycleInput) :
    StateInv { s with ign := i, rsp := r, schedule := cs } :=
  { h with }

/-- States with the results, and while locked the parameters, of one with the invariants have them too, if CLKDIV keeps
its top byte 0. -/
theorem StateInv.of_keepsResults {s t : State} (h : StateInv s) (hk : KeepsResults s t)
    (htop : t.clkdiv.extractLsb' 24 8 = 0#8) : StateInv t := by
  obtain ⟨⟨hbusy, hdone, hvalid, herr, hcode⟩, ⟨hA, hB, hC, hD⟩, hparams⟩ := hk
  refine ⟨?_, ?_, ?_, ?_, ?_, ?_, ?_, fun hv => ?_, htop⟩
  · rw [hbusy, hdone, hvalid, herr, hcode]; exact h.busy_clear
  · rw [hdone, hvalid, herr]; exact h.done_iff
  · rw [hvalid, herr]; exact h.not_both
  · rw [herr, hcode]; exact h.err_code
  · rw [herr, hcode]; exact h.no_err_code
  · rw [hvalid, hA, hB, hC, hD]; exact h.counts_zero
  · rw [hA, hC]; exact h.c_is_a
  · rw [hvalid] at hv
    rw [calcNow_of_sameParams _ (hparams ((locked_eq_true_iff s).2 (.inr hv))), hA, hB, hC, hD]
    exact h.valid_calc hv

/-- A state with no result in which nothing is done, BUSY or not, has the invariants. -/
theorem inv_of_noResult {s : State} (h : NoResult s) (hd : s.done = false) (htop : s.clkdiv.extractLsb' 24 8 = 0#8) :
    StateInv s where
  busy_clear _ := ⟨hd, h.valid, h.err, h.errcode⟩
  done_iff := by simp [hd, h.valid, h.err]
  not_both := by simp [h.valid]
  err_code he := by simp [h.err] at he
  no_err_code _ := h.errcode
  counts_zero _ := ⟨h.countA, h.countB, h.countC, h.countD⟩
  c_is_a := h.countC.trans h.countA.symm
  valid_calc hv := by simp [h.valid] at hv
  clkdiv_top := htop

/-! ## ENG.COMPLETE keeps the invariants -/

/-- The counts that CALC returns fit their registers (R129, R136). -/
theorem counts_toNat {d : Config.IdleDomain} {s : State} {c : Counts} (h : s.calcNow d = .ok c) :
    (BitVec.ofNat 32 c.a).toNat = c.a ∧ (BitVec.ofNat 32 c.b).toNat = c.b ∧ (BitVec.ofNat 32 c.c).toNat = c.c
      ∧ (BitVec.ofNat 32 c.d).toNat = c.d := by
  obtain ⟨hA, hB, hC, hD⟩ := stored_le_of_calc_ok h
  simp only [BitVec.toNat_ofNat]
  omega

/-- C is A's copy (R125). -/
theorem counts_c_eq_a {d : Config.IdleDomain} {s : State} {c : Counts} (h : s.calcNow d = .ok c) : c.c = c.a := by
  obtain ⟨-, -, -, -, rfl⟩ := (calcDelay_eq_ok_iff _ _ _ _ _ _ _).1 h
  rfl

/-- ENG.COMPLETE over a state with no result records one with the invariants. -/
theorem inv_engComplete {s : State} (hno : NoResult s) (htop : s.clkdiv.extractLsb' 24 8 = 0#8) :
    StateInv (engComplete .cyc s) := by
  cases hr : s.calcNow .cyc with
  | ok c =>
    obtain ⟨hA, hB, hC, hD⟩ := counts_toNat hr
    rw [engComplete_of_ok hr]
    exact {
      busy_clear := nofun
      done_iff := by simp
      not_both := by simp [hno.err]
      err_code := fun he => by simp [hno.err] at he
      no_err_code := fun _ => hno.errcode
      counts_zero := nofun
      c_is_a := congrArg (BitVec.ofNat 32) (counts_c_eq_a hr)
      valid_calc := fun _ => by rw [hA, hB, hC, hD]; exact hr
      clkdiv_top := htop }
  | error e =>
    rw [engComplete_of_error hr]
    exact {
      busy_clear := nofun
      done_iff := by simp
      not_both := by simp [hno.valid]
      err_code := fun _ => by cases e <;> simp [ConfigError.code]
      no_err_code := nofun
      counts_zero := fun _ => ⟨hno.countA, hno.countB, hno.countC, hno.countD⟩
      c_is_a := hno.countC.trans hno.countA.symm
      valid_calc := fun hv => by simp [hno.valid] at hv
      clkdiv_top := htop }

/-! ## A step keeps the invariants -/

/-- Bits 31:24 of CLKDIV stay 0: what a write stores there is a divider's word (R30 item 8). -/
theorem step_clkdiv_top {s t : State} (htop : s.clkdiv.extractLsb' 24 8 = 0#8) (h : step s = .next t) :
    t.clkdiv.extractLsb' 24 8 = 0#8 := by
  cases hr : s.nextCycle.rst with
  | true =>
    rw [step_of_rst hr] at h
    injection h with h
    subst h
    exact inv_of_reset.clkdiv_top
  | false =>
    rcases step_params_cases h hr with ⟨-, hdiv, -⟩ | ⟨p, v, -, -, hdiv, -⟩
    · rw [hdiv]
      exact htop
    · rw [hdiv]
      cases p
      case clkdiv =>
        rw [setParam_clkdiv_clkdiv, ← dividerWord_dividerField_eq_self_iff, dividerField_dividerWord]
      all_goals exact htop

/-- A request keeps the invariants: START and CLEAR leave no result, every other request
keeps the results. -/
theorem inv_of_requestLeaves {s u : State} (hi : StateInv s) (hu : requestLeaves s u)
    (htop : u.clkdiv.extractLsb' 24 8 = 0#8) : StateInv u := by
  rcases requestLeaves_result_cases hu with ⟨⟨-, hl⟩, rfl⟩ | ⟨-, rfl⟩ | ⟨-, -, hk⟩
  · obtain ⟨-, hv⟩ := (locked_eq_false_iff s).1 hl
    exact inv_of_noResult (hi.noResult_started hv s.schedule.tail) rfl htop
  · exact inv_of_noResult ⟨rfl, rfl, rfl, rfl, rfl, rfl, rfl⟩ rfl htop
  · exact hi.of_keepsResults hk htop

theorem step_keeps_inv {s t : State} (hi : StateInv s) (h : step s = .next t) : StateInv t := by
  have htop := step_clkdiv_top hi.clkdiv_top h
  rcases step_turn_cases h with ⟨-, rfl⟩ | ⟨hc, -⟩ | ⟨-, -, hu⟩
  · exact inv_of_reset.of_bookkeeping _ _ _
  · obtain ⟨-, -, hb⟩ := (completes_eq_true_iff s).1 hc
    obtain ⟨i, r, rfl⟩ := step_of_completes hc h
    exact (inv_engComplete (hi.noResult_of_busy hb) hi.clkdiv_top).of_bookkeeping i r _
  · exact inv_of_requestLeaves hi hu htop

/-! ## A cycle with nothing but the engine's turn -/

/-- A cycle without request, in which the engine completes if it is BUSY. -/
theorem step_of_silent {s : State} (h : s.nextCycle = CycleInput.silent) :
    step s = .next (engineTurn .cyc s.busy (s.advance.respond false 0#32)) := by
  rw [step, stepWith, h]
  exact clockCycle_of_request rfl rfl

theorem step_of_silent_idle {s : State} (h : s.nextCycle = CycleInput.silent) (hb : s.busy = false) :
    step s = .next (s.advance.respond false 0#32) := by
  rw [step_of_silent h, hb]
  rfl

theorem step_of_silent_busy {s : State} (h : s.nextCycle = CycleInput.silent) (hb : s.busy = true) :
    step s = .next (engComplete .cyc (s.advance.respond false 0#32)) := by
  rw [step_of_silent h, hb]
  rfl

/-- The counts as registers: A's register serves for C. -/
theorem engComplete_ok_registers {s : State} {c : Counts} (h : s.calcNow .cyc = .ok c) :
    ∃ a b d : Word, a.toNat = c.a ∧ b.toNat = c.b ∧ a.toNat = c.c ∧ d.toNat = c.d
      ∧ engComplete .cyc s = { s with countA := a, countB := b, countC := a, countD := d, valid := true,
                                      busy := false, done := true } := by
  obtain ⟨hA, hB, hC, hD⟩ := counts_toNat h
  have hca := counts_c_eq_a h
  exact ⟨_, _, _, hA, hB, hA.trans hca.symm, hD, by rw [engComplete_of_ok h, hca]⟩

/-! ## What changes the counts -/

/-- All that a step does to the counts: they stay, or the cycle is a reset, a CLEAR or a completion with a result. -/
theorem step_counts_cases {s t : State} (h : step s = .next t) :
    State.sameCounts s t ∨ s.nextCycle.rst = true ∨ s.nextOp = some .cmdClear
      ∨ (s.completes = true ∧ ∃ c, s.calcNow .cyc = .ok c) := by
  rcases step_turn_cases h with ⟨hr, -⟩ | ⟨hc, -⟩ | ⟨-, -, hu⟩
  · exact .inr (.inl hr)
  · cases hs : s.calcNow .cyc with
    | ok c => exact .inr (.inr (.inr ⟨hc, c, rfl⟩))
    | error e =>
      obtain ⟨i, r, rfl⟩ := step_of_completes_error hc hs h
      exact .inl ⟨rfl, rfl, rfl, rfl⟩
  · rcases requestLeaves_result_cases hu with ⟨-, rfl⟩ | ⟨⟨ho, -⟩, -⟩ | ⟨-, -, -, hcounts, -⟩
    · exact .inl ⟨rfl, rfl, rfl, rfl⟩
    · exact .inr (.inr (.inl ho))
    · exact .inl hcounts

/-! ## STATUS without IGN -/

/-- Masking IGN out of STATUS is STATUS with IGN clear (R21). -/
theorem statusWord_without_ign (s : State) :
    s.statusWord &&& ~~~ 0x010#32 = State.statusWord { s with ign := false } := by
  apply BitVec.eq_of_getLsbD_eq
  intro i hi
  have hmask : (0x010#32).getLsbD i = decide (i = 4) := by
    revert i
    decide
  rw [BitVec.getLsbD_and, BitVec.getLsbD_not, hmask, getLsbD_statusWord, getLsbD_statusWord]
  by_cases h4 : i = 4
  · simp [h4]
  · simp [h4, hi]

/-- Bits 7:5 and 31:12 of STATUS read 0 (R21). -/
theorem getLsbD_statusWord_reserved (s : State) {i : Nat} (h : 5 ≤ i) (h' : i < 8 ∨ 12 ≤ i) :
    s.statusWord.getLsbD i = false := by
  rw [getLsbD_statusWord, if_neg (by omega), if_neg (by omega), if_neg (by omega), if_neg (by omega),
    if_neg (by omega)]
  split
  · exact BitVec.getLsbD_of_ge _ _ (by omega)
  · rfl

/-! ## The statements -/

/-- Settles O52: reset, completion or request, each case has its lemma; CLKDIV's top byte by `step_clkdiv_top`. -/
theorem stepKeepsInvariants : Obligations.StepKeepsInvariants :=
  fun _ _ hi h => step_keeps_inv hi h

/-- Settles O53: the items of R30 at the reset values. -/
theorem resetHasInvariants : Obligations.ResetHasInvariants := inv_of_reset

/-- Settles O35: an operation answers, and so does the cycle that performs it. -/
theorem everyStepAnswersNext : Obligations.EveryStepAnswersNext :=
  ⟨fun d s => clockCycle_answers d s.nextCycle s.advance, clockCycle_answers, exec_answers⟩

/-- Settles O34: the cycle of a request by `step_of_schedule_cons`; a table word is a cycle without completion. -/
theorem stepRunsDecodedRequest : Obligations.StepRunsDecodedRequest := by
  refine ⟨fun s t c rest r hs hr hq h => ?_, fun s nbits w => ?_⟩
  · have hperform : performRequest { s with schedule := rest } c.req = .next t := by rw [hq]; exact h
    rw [step_of_schedule_cons hs hr hperform]
    simp [engineTurn]
  · have hword : (Request.ofWord (tableWord nbits w)).toWord = tableWord nbits w := mkReq_fields _
    obtain ⟨t, ht⟩ := exec_answers (decode (tableWord nbits w)) s
    have hperform : performRequest s (some (Request.ofWord (tableWord nbits w))) = .next t := by
      rw [performRequest, hword, ht]
    rw [ht]
    exact step_of_schedule_cons (s := s.withFetchWord nbits w) rfl rfl hperform

/-- Settles O36: the engine's turn by `step_of_silent_busy`, its counts by `engComplete_ok_registers`. -/
theorem engineStepRecordsTheResult : Obligations.EngineStepRecordsTheResult := by
  intro s hn
  refine ⟨fun hb => ?_, fun hb => ⟨fun c hc => ?_, fun e he => ⟨e.code, ?_, ?_⟩⟩⟩
  · exact step_of_silent_idle hn hb
  · obtain ⟨a, b, d, hA, hB, hC, hD, heng⟩ := engComplete_ok_registers (s := s.advance.respond false 0#32) hc
    exact ⟨a, b, d, hA, hB, hC, hD, (step_of_silent_busy hn hb).trans (congrArg _ heng)⟩
  · cases e <;> rfl
  · exact (step_of_silent_busy hn hb).trans (congrArg _ (engComplete_of_error he))

/-- Settles O50: the changes by `step_counts_cases`; the values of a completion are the stored counts of CALC. -/
theorem countsComeFromTheEngine : Obligations.CountsComeFromTheEngine := by
  intro s t hi h
  refine ⟨fun hne => (step_counts_cases h).resolve_left hne, fun hc c hr => ?_⟩
  obtain ⟨-, -, hb⟩ := (completes_eq_true_iff s).1 hc
  obtain ⟨i, r, rfl⟩ := step_of_completes hc h
  obtain ⟨a, b, d, hA, hB, -, hD, heng⟩ := engComplete_ok_registers hr
  obtain ⟨-, -, -, -, rfl⟩ := (calcDelay_eq_ok_iff _ _ _ _ _ _ _).1 hr
  rw [storedCounts_eq] at hA hB hD
  rw [heng]
  refine ⟨rfl, (hi.noResult_of_busy hb).err, rfl, rfl, hA, hB, rfl, hD.trans ?_⟩
  simp only [idleRaw, idleRawCyc]
  omega

/-- Settles O54: the reserved bits by `getLsbD_statusWord_reserved`; without IGN the word is that of the state with IGN
clear, whose values `StateInv.statusWord_mem` lists. -/
theorem statusTakesSevenValues : Obligations.StatusTakesSevenValues := by
  refine ⟨fun s => ⟨?_, ?_⟩, fun s hi => ?_⟩
  · apply BitVec.eq_of_getLsbD_eq
    intro i hi
    simp [getLsbD_statusWord_reserved s (i := 5 + i) (by omega) (by omega)]
  · apply BitVec.eq_of_getLsbD_eq
    intro i hi
    simp [getLsbD_statusWord_reserved s (i := 12 + i) (by omega) (by omega)]
  · have hmem := (hi.of_bookkeeping false s.rsp s.schedule).statusWord_mem
    rw [statusWord_without_ign]
    simpa [← BitVec.toNat_inj] using hmem

end Sys2Proof.Machine
end

section
/-! SUPPORT. Runs of steps: a busy engine completes, the cycle of the completion does not change the result, and a run ends
with one response for each request (spec/70_reset_and_hazards.md R180 to R182). -/

namespace Sys2Proof.Machine

/-! ## A busy engine completes (R181) -/

/-- A busy step with neither reset nor completion: only IGN, the response and the schedule change. -/
theorem step_of_busy_waiting {s t : State} (hb : s.busy = true) (hr : s.nextCycle.rst = false)
    (hc : s.completes = false) (h : step s = .next t) :
    ∃ i r, t = { s with ign := i, rsp := r, schedule := s.schedule.tail } := by
  rcases step_turn_cases h with ⟨hr', -⟩ | ⟨hc', -⟩ | ⟨-, -, hu⟩
  · simp [hr] at hr'
  · simp [hc] at hc'
  · obtain ⟨ht, -⟩ := requestLeaves_of_busy hb hu
    exact ⟨t.ign, t.rsp, ht⟩

/-- The completion falls in the coming cycle of a state. -/
def CompletesNext (t : State) : Prop := t.busy = true ∧ t.completes = true

/-- The engine of a state is busy, and the completion does not fall in the coming cycle. -/
def Waits (v : State) : Prop := v.busy = true ∧ v.completes = false

/-- From a busy state without a reset to come, the completion falls within one step more than the schedule holds, and the
engine waits until then. The schedule's end completes (log entry 2). -/
theorem exists_run_to_completion (cs : List CycleInput) {s : State} (hs : s.schedule = cs) (hb : s.busy = true)
    (hr : ∀ c ∈ cs, c.rst = false) :
    ∃ k t, k ≤ cs.length ∧ run k s = .next t ∧ CompletesNext t ∧ ∀ j v, j < k → run j s = .next v → Waits v := by
  induction cs generalizing s with
  | nil =>
    have hc : s.completes = true := by simp [State.completes, State.nextCycle, hs, CycleInput.silent, hb]
    exact ⟨0, s, le_rfl, run_zero s, ⟨hb, hc⟩, nofun⟩
  | cons c cs ih =>
    cases hc : s.completes with
    | true => exact ⟨0, s, Nat.zero_le _, run_zero s, ⟨hb, hc⟩, nofun⟩
    | false =>
      have hrst : s.nextCycle.rst = false := by
        simpa [State.nextCycle, hs] using hr c List.mem_cons_self
      obtain ⟨u, hu⟩ := step_answers s
      obtain ⟨i, r, rfl⟩ := step_of_busy_waiting hb hrst hc hu
      obtain ⟨k, t, hk, hrun, ht, hwait⟩ :=
        ih (s := { s with ign := i, rsp := r, schedule := s.schedule.tail }) (by simp [hs]) hb
          fun c' hc' => hr c' (List.mem_cons_of_mem _ hc')
      refine ⟨k + 1, t, Nat.succ_le_succ hk, (run_succ k hu).trans hrun, ht, fun j v hj hv => ?_⟩
      cases j with
      | zero =>
        injection hv with hv
        exact hv ▸ ⟨hb, hc⟩
      | succ j => exact hwait j v (Nat.lt_of_succ_lt_succ hj) ((run_succ j hu).symm.trans hv)

/-! ## The cycle of the completion does not matter (R120, R180) -/

/-- While the engine is busy, any cycles without reset and without completion leave all but IGN and the response. -/
theorem run_of_waiting_cycles (cs rest : List CycleInput) (k : Nat) {s : State} (hs : s.schedule = cs ++ rest)
    (hb : s.busy = true) (hcs : ∀ c ∈ cs, c.rst = false ∧ c.complete = false) :
    ∃ i r, run (cs.length + k) s = run k { s with ign := i, rsp := r, schedule := rest } := by
  induction cs generalizing s with
  | nil =>
    have hself : s = { s with ign := s.ign, rsp := s.rsp, schedule := rest } := by rw [← List.nil_append rest, ← hs]
    exact ⟨s.ign, s.rsp, by rw [List.length_nil, Nat.zero_add, ← hself]⟩
  | cons c cs ih =>
    obtain ⟨hr, hc⟩ := hcs c List.mem_cons_self
    have hnext : s.nextCycle = c := by simp [State.nextCycle, hs]
    obtain ⟨t, ht⟩ := step_answers s
    obtain ⟨i, r, rfl⟩ := step_of_busy_waiting hb (by rw [hnext, hr]) (by simp [State.completes, hnext, hc]) ht
    obtain ⟨i', r', hrun⟩ :=
      ih (s := { s with ign := i, rsp := r, schedule := s.schedule.tail }) (by simp [hs]) hb
        fun c' hc' => hcs c' (List.mem_cons_of_mem _ hc')
    refine ⟨i', r', ?_⟩
    rw [List.length_cons, Nat.add_right_comm, run_succ _ ht, hrun]

/-- One step of a busy state whose schedule is the completion. -/
theorem run_one_of_completion {s : State} (hb : s.busy = true) :
    run 1 { s with schedule := [CycleInput.silent] } =
      .next (engComplete .cyc { s with rsp := ⟨false, 0#32⟩, schedule := [] }) := by
  rw [run_succ 0 (step_of_silent_busy (s := { s with schedule := [CycleInput.silent] }) rfl hb)]
  rfl

/-! ## The end of a run (R182) -/

/-- A step answers one response if its cycle presents a request, a cycle of reset included. -/
theorem length_responseTo (s t : State) : (responseTo s t).length = if s.nextCycle.req.isSome then 1 else 0 := by
  unfold responseTo
  split <;> rfl

/-- A run as long as the schedule answers one response for each request scheduled. -/
theorem length_responses (n : Nat) {s : State} (hn : s.schedule.length ≤ n) :
    (responses n s).length = s.schedule.countP fun c => c.req.isSome := by
  induction n generalizing s with
  | zero => simp [List.eq_nil_of_length_eq_zero (Nat.le_zero.1 hn)]
  | succ n ih =>
    obtain ⟨t, ht⟩ := step_answers s
    have htail : t.schedule = s.schedule.tail := step_schedule ht
    rw [responses_succ n ht, List.length_append, length_responseTo, ih (by rw [htail, List.length_tail]; omega), htail]
    cases hs : s.schedule with
    | nil => simp [State.nextCycle, hs, CycleInput.silent]
    | cons c cs => simp [State.nextCycle, hs, List.countP_cons, Nat.add_comm]

/-- Where no request is to come, no step answers one. -/
theorem responses_of_no_request (n : Nat) {s : State} (h : ∀ c ∈ s.schedule, c.req = none) : responses n s = [] := by
  induction n generalizing s with
  | zero => rfl
  | succ n ih =>
    obtain ⟨t, ht⟩ := step_answers s
    have hnone : s.nextCycle.req = none := by
      cases hs : s.schedule with
      | nil => simp [State.nextCycle, hs, CycleInput.silent]
      | cons c cs => simpa [State.nextCycle, hs] using h c (by simp [hs])
    rw [responses_succ n ht, ih fun c hc => h c (List.mem_of_mem_tail (step_schedule ht ▸ hc))]
    simp [responseTo, hnone]

/-- After the schedule's end one step leaves the engine idle (log entry 2). -/
theorem finished_of_step_at_end {s t : State} (hs : s.schedule = []) (h : step s = .next t) : t.finished = true := by
  rw [finished_eq_true_iff, step_schedule h, hs]
  refine ⟨?_, nofun⟩
  have hn : s.nextCycle = CycleInput.silent := by simp [State.nextCycle, hs]
  cases hb : s.busy with
  | true => rw [step_of_silent_busy hn hb] at h; injection h with h; rw [← h]; rfl
  | false => rw [step_of_silent_idle hn hb] at h; injection h with h; rw [← h]; exact hb

/-- After `k` steps, within one step more than the schedule holds, the run from `s` is over in `t`, and was not before. -/
structure EndsAt (s : State) (k : Nat) (t : State) : Prop where
  bound : k ≤ s.schedule.length + 1
  run_eq : run k s = .next t
  finished : t.finished = true
  first : ∀ j v, j < k → run j s = .next v → v.finished = false
  runToEnd_eq : runToEnd (s.schedule.length + 1) s = some t
  responses_eq : responses (s.schedule.length + 1) s = responses k s

theorem endsAt_of_finished {s : State} (hf : s.finished = true) : EndsAt s 0 s where
  bound := Nat.zero_le _
  run_eq := run_zero s
  finished := hf
  first := nofun
  runToEnd_eq := runToEnd_of_finished _ hf
  responses_eq := responses_of_no_request _ ((finished_eq_true_iff s).1 hf).2

/-- Before the end of a run no state but those after it is finished. -/
theorem not_finished_before_succ {s u : State} {k : Nat} (hf : s.finished = false) (hu : step s = .next u)
    (hfirst : ∀ j v, j < k → run j u = .next v → v.finished = false) :
    ∀ j v, j < k + 1 → run j s = .next v → v.finished = false := by
  intro j v hj hv
  cases j with
  | zero =>
    injection hv with hv
    exact hv ▸ hf
  | succ j => exact hfirst j v (Nat.lt_of_succ_lt_succ hj) ((run_succ j hu).symm.trans hv)

/-- A run that is not over ends where the run after its step does. -/
theorem endsAt_succ {s u t : State} {k : Nat} {c : CycleInput} {cs : List CycleInput} (hs : s.schedule = c :: cs)
    (hf : s.finished = false) (hu : step s = .next u) (h : EndsAt u k t) : EndsAt s (k + 1) t := by
  have hlen : s.schedule.length = u.schedule.length + 1 := by simp [step_schedule hu, hs]
  refine ⟨?_, (run_succ k hu).trans h.run_eq, h.finished, not_finished_before_succ hf hu h.first, ?_, ?_⟩
  · rw [hlen]
    exact Nat.succ_le_succ h.bound
  · rw [hlen, runToEnd_succ _ hf hu, h.runToEnd_eq]
  · rw [hlen, responses_succ _ hu, responses_succ _ hu, h.responses_eq]

/-- Every run ends. -/
theorem exists_endsAt (cs : List CycleInput) {s : State} (hs : s.schedule = cs) : ∃ k t, EndsAt s k t := by
  induction cs generalizing s with
  | nil =>
    cases hf : s.finished with
    | true => exact ⟨0, s, endsAt_of_finished hf⟩
    | false =>
      obtain ⟨u, hu⟩ := step_answers s
      have hend := finished_of_step_at_end hs hu
      refine ⟨1, u, ⟨?_, run_succ 0 hu, hend, not_finished_before_succ hf hu nofun, ?_, ?_⟩⟩
      · exact Nat.le_add_left _ _
      · rw [runToEnd_succ _ hf hu, runToEnd_of_finished _ hend]
      · rw [hs]
        rfl
  | cons c cs ih =>
    cases hf : s.finished with
    | true => exact ⟨0, s, endsAt_of_finished hf⟩
    | false =>
      obtain ⟨u, hu⟩ := step_answers s
      obtain ⟨k, t, h⟩ := ih (s := u) (by simp [step_schedule hu, hs])
      exact ⟨k + 1, t, endsAt_succ hs hf hu h⟩

/-! ## The statements -/

/-- Settles O40: `exists_run_to_completion`, and the completion's own step. -/
theorem busyAlwaysCompletes : Obligations.BusyAlwaysCompletes := by
  intro s hb hr
  obtain ⟨k, t, hk, hrun, ⟨htb, htc⟩, hwait⟩ := exists_run_to_completion s.schedule rfl hb hr
  obtain ⟨u, hu⟩ := step_answers t
  obtain ⟨i, r, rfl⟩ := step_of_completes htc hu
  exact ⟨k, t, _, hk, hrun, htb, htc, hu, rfl, rfl, hwait⟩

/-- Settles O41: the cycles before the completion leave the parameters and the missing result, of which ENG.COMPLETE is a
function. -/
theorem completionTimeIsIrrelevant : Obligations.CompletionTimeIsIrrelevant := by
  intro s cs hi hb hcs
  obtain ⟨i, r, hrun⟩ := run_of_waiting_cycles cs [CycleInput.silent] 1
    (s := { s with schedule := cs ++ [CycleInput.silent] }) rfl hb hcs
  have hno := hi.noResult_of_busy hb
  have hnow : NoResult { s with rsp := ⟨false, 0#32⟩, schedule := [] } := { hno with }
  have hlater : NoResult { s with ign := i, rsp := ⟨false, 0#32⟩, schedule := [] } := { hno with }
  obtain ⟨hcounts, houtcome⟩ := engComplete_of_sameParams .cyc hnow hlater ⟨rfl, rfl, rfl, rfl, rfl⟩
  refine ⟨_, _, run_one_of_completion hb, hrun.trans (run_one_of_completion (s := { s with ign := i, rsp := r }) hb),
    ?_, ?_, hcounts, houtcome⟩
  · simp [State.sameParams]
  · simp [State.sameParams]

/-- Settles O55: the run ends by `exists_endsAt`; its responses are those of the whole schedule, one for each request. -/
theorem runEndsWithAResponsePerRequest : Obligations.RunEndsWithAResponsePerRequest := by
  intro s
  obtain ⟨k, t, h⟩ := exists_endsAt s.schedule rfl
  obtain ⟨htb, htq⟩ := (finished_eq_true_iff t).1 h.finished
  refine ⟨k, t, h.bound, h.run_eq, htb, htq, fun j v hj hv => ?_, ?_, ?_⟩
  · have hnot : ¬ (v.busy = false ∧ ∀ c ∈ v.schedule, c.req = none) := by
      rw [← finished_eq_true_iff, h.first j v hj hv]
      exact Bool.false_ne_true
    exact (not_and_or.1 hnot).imp Bool.eq_true_of_not_eq_false fun hq => by simpa using hq
  · rw [State.runProgram, h.runToEnd_eq, h.responses_eq]
    rfl
  · rw [← h.responses_eq]
    exact length_responses _ (Nat.le_succ _)

end Sys2Proof.Machine
end
